-- ==== Sys2Proof/Word.lean ====
section
/-! DEFINITION. The word types of the block: the fields of the command format (30_encoding.md R71) and the registers
whose width the spec fixes. The widths of R6 are parameters (Config), so the values they bound are natural numbers below
a power of two (R8). -/

namespace Sys2Proof

/-- The width of the field `F` of a command word (R71); not the parameter `FREQ_WIDTH`. -/
abbrev freqFieldWidth : Nat := 16
/-- The width of the field `D` of a command word (R71); not the parameter `DUTY_WIDTH`. -/
abbrev dutyFieldWidth : Nat := 8
/-- The width of `RESP` and `FINFO` (R30, R31). -/
abbrev respWidth : Nat := 32

/-- `v` is in `uN` for `N = width` (R8): a natural number below `2^width`. -/
def fits (width v : Nat) : Bool := decide (v < 2 ^ width)

/-- A frequency operand in hertz (R72). -/
abbrev FreqWord := BitVec 16
/-- A duty operand in percent (R73). -/
abbrev DutyWord := BitVec 8
/-- A command word (R70), a response (R30) or a fault's information word (R31). -/
abbrev Word := BitVec 32
/-- The content of `FAULT` (R31). -/
abbrev FaultWord := BitVec 4
/-- One byte of a command word in transport (R53). -/
abbrev Byte := BitVec 8

end Sys2Proof
end

