-- ==== Sys2Proof/Syntax.lean ====
section
/-! DEFINITION. The nine commands of 30_encoding.md R74, one constructor per row of spec/opcode_table.json. -/

namespace Sys2Proof

/-- A command. Its operands have the widths of the fields they are read from (R72, R73), so every term is one the
encoding admits; the checks on operands written by hand are in WellFormed. -/
inductive Instr where
  /-- `INIT f, d` (R94). -/
  | init (f : FreqWord) (d : DutyWord)
  /-- `SETF f` (R95). -/
  | setf (f : FreqWord)
  /-- `SETD d` (R96). -/
  | setd (d : DutyWord)
  /-- `RDPER` (R97). -/
  | rdper
  /-- `RDCMP` (R98). -/
  | rdcmp
  /-- `RDSTOP` (R121). -/
  | rdstop
  /-- `CLRSTOP` (R122). -/
  | clrstop
  /-- `TGLSTOP` (R123). -/
  | tglstop
  /-- `TGLDIR` (R124). -/
  | tgldir
  deriving DecidableEq, Repr

end Sys2Proof
end

