-- ==== Sys2Proof/WellFormed.lean ====
section
/-! DEFINITION. Commands as they are written in a source line, with natural-number operands, and the checks of
30_encoding.md R80 that turn one into a command. (`Instr` itself needs no check: its operand types are the fields.) -/

namespace Sys2Proof

/-- A command as written in assembly (R80), before its operands are checked. -/
inductive Source where
  | init (f d : Nat)
  | setf (f : Nat)
  | setd (d : Nat)
  | rdper
  | rdcmp
  | rdstop
  | clrstop
  | tglstop
  | tgldir
  deriving DecidableEq, Repr

/-- A frequency operand fits its field iff `f <= 65535` (R80). -/
def freqFits (f : Nat) : Bool := decide (f < 2 ^ freqFieldWidth)

/-- A duty operand fits its field iff `d <= 255` (R80). -/
def dutyFits (d : Nat) : Bool := decide (d < 2 ^ dutyFieldWidth)

/-- R80: "An operand outside its field (`f > 65535`, `d > 255`) is an assembly error, not a command." -/
def Source.wellFormed : Source → Bool
  | .init f d => freqFits f && dutyFits d
  | .setf f   => freqFits f
  | .setd d   => dutyFits d
  | .rdper    => true
  | .rdcmp    => true
  | .rdstop   => true
  | .clrstop  => true
  | .tglstop  => true
  | .tgldir   => true

/-- The command a source line spells, its operands taken as they fit their fields. -/
def Source.instr : Source → Instr
  | .init f d => .init (BitVec.ofNat 16 f) (BitVec.ofNat 8 d)
  | .setf f   => .setf (BitVec.ofNat 16 f)
  | .setd d   => .setd (BitVec.ofNat 8 d)
  | .rdper    => .rdper
  | .rdcmp    => .rdcmp
  | .rdstop   => .rdstop
  | .clrstop  => .clrstop
  | .tglstop  => .tglstop
  | .tgldir   => .tgldir

/-- The command of a well-formed source line; none for an ill-formed one. -/
def Source.toInstr (c : Source) : Option Instr :=
  if c.wellFormed then some c.instr else none

end Sys2Proof
end

