-- ==== Sys2Proof/Decode.lean ====
section
/-! DEFINITION. The decoder and the encoder of 30_encoding.md R71 to R79, the transport of R53, and the rows of the
opcode table. -/

namespace Sys2Proof

/-- Why a word is no command. -/
inductive DecodeError where
  /-- `RSV` is not 0 (R75). -/
  | reservedBits
  /-- A field the command does not use is not 0 (R75). -/
  | unusedField
  /-- `OP` is 0 or 0xA to 0xF (R76). -/
  | reservedOpcode
  /-- A transport delivered fewer than the four bytes of a word (R53, R70). -/
  | tooShort
  deriving DecidableEq, Repr

/-- `OP = word[31:28]` (R71). -/
def opField (w : Word) : BitVec 4 := w.extractLsb' 28 4
/-- `RSV = word[27:24]` (R71). -/
def rsvField (w : Word) : BitVec 4 := w.extractLsb' 24 4
/-- `D = word[23:16]` (R71). -/
def dutyField (w : Word) : DutyWord := w.extractLsb' 16 8
/-- `F = word[15:0]` (R71). -/
def freqField (w : Word) : FreqWord := w.extractLsb' 0 16

/-- A command that uses only `F` needs `D = 0` (R75). -/
def needDutyZero (w : Word) (i : Instr) : Except DecodeError Instr :=
  if dutyField w = 0 then .ok i else .error .unusedField

/-- A command that uses only `D` needs `F = 0` (R75). -/
def needFreqZero (w : Word) (i : Instr) : Except DecodeError Instr :=
  if freqField w = 0 then .ok i else .error .unusedField

/-- A command without operands needs `D = 0` and `F = 0` (R75). -/
def needBothZero (w : Word) (i : Instr) : Except DecodeError Instr :=
  if dutyField w = 0 ∧ freqField w = 0 then .ok i else .error .unusedField

/-- R78: decoding, total on every 32-bit word. -/
def decode (w : Word) : Except DecodeError Instr :=
  if rsvField w ≠ 0 then .error .reservedBits
  else
    match (opField w).toNat with
    | 1 => .ok (.init (freqField w) (dutyField w))
    | 2 => needDutyZero w (.setf (freqField w))
    | 3 => needFreqZero w (.setd (dutyField w))
    | 4 => needBothZero w .rdper
    | 5 => needBothZero w .rdcmp
    | 6 => needBothZero w .rdstop
    | 7 => needBothZero w .clrstop
    | 8 => needBothZero w .tglstop
    | 9 => needBothZero w .tgldir
    | _ => .error .reservedOpcode

/-- A word from its three written fields: `op << 28 | d << 16 | f` (R78). -/
def packWord (op : BitVec 4) (d : DutyWord) (f : FreqWord) : Word :=
  (op.setWidth 32 <<< 28) ||| (d.setWidth 32 <<< 16) ||| f.setWidth 32

/-- R78: the word of a command. -/
def encode : Instr → Word
  | .init f d => packWord 0x1 d f
  | .setf f   => packWord 0x2 0 f
  | .setd d   => packWord 0x3 d 0
  | .rdper    => 0x40000000
  | .rdcmp    => 0x50000000
  | .rdstop   => 0x60000000
  | .clrstop  => 0x70000000
  | .tglstop  => 0x80000000
  | .tgldir   => 0x90000000

/-- R53: a transport sends a command word least significant byte first. -/
def wordBytes (w : Word) : List Byte :=
  [w.extractLsb' 0 8, w.extractLsb' 8 8, w.extractLsb' 16 8, w.extractLsb' 24 8]

/-- Decoding from a transport's bytes (R53): one command and the bytes after it. -/
def decodeBytes : List Byte → Except DecodeError (Instr × List Byte)
  | b0 :: b1 :: b2 :: b3 :: rest =>
    match decode (b3 ++ b2 ++ b1 ++ b0) with
    | .ok i    => .ok (i, rest)
    | .error e => .error e
  | [] => .error .tooShort
  | [_] => .error .tooShort
  | [_, _] => .error .tooShort
  | [_, _, _] => .error .tooShort

/-- The command the decoder reads from the first `nbits` bits of `w`, the bits above them 0. -/
def decodeTableWord (nbits w : Nat) : Option Instr :=
  match decodeBytes (wordBytes (BitVec.ofNat 32 (w % 2 ^ nbits))) with
  | .ok (i, _) => some i
  | .error _   => none

/-- One row of spec/opcode_table.json: a word is this command iff its bits under `mask` are `pattern`. -/
structure TableRow where
  mnemonic : String
  pattern  : Word
  mask     : Word
  deriving DecidableEq, Repr

/-- The table's row of a command. -/
def Instr.tableRow : Instr → TableRow
  | .init _ _ => ⟨"INIT",    0x10000000, 0xFF000000⟩
  | .setf _   => ⟨"SETF",    0x20000000, 0xFFFF0000⟩
  | .setd _   => ⟨"SETD",    0x30000000, 0xFF00FFFF⟩
  | .rdper    => ⟨"RDPER",   0x40000000, 0xFFFFFFFF⟩
  | .rdcmp    => ⟨"RDCMP",   0x50000000, 0xFFFFFFFF⟩
  | .rdstop   => ⟨"RDSTOP",  0x60000000, 0xFFFFFFFF⟩
  | .clrstop  => ⟨"CLRSTOP", 0x70000000, 0xFFFFFFFF⟩
  | .tglstop  => ⟨"TGLSTOP", 0x80000000, 0xFFFFFFFF⟩
  | .tgldir   => ⟨"TGLDIR",  0x90000000, 0xFFFFFFFF⟩

/-- The table, in its order. -/
def opcodeTable : List TableRow :=
  [(Instr.init 0 0).tableRow, (Instr.setf 0).tableRow, (Instr.setd 0).tableRow,
   Instr.rdper.tableRow, Instr.rdcmp.tableRow, Instr.rdstop.tableRow,
   Instr.clrstop.tableRow, Instr.tglstop.tableRow, Instr.tgldir.tableRow]

/-- A word matches a row. -/
def TableRow.accepts (r : TableRow) (w : Word) : Bool := w &&& r.mask == r.pattern

end Sys2Proof
end

