-- ==== Sys2Proof/Config.lean ====
section
/-! DEFINITION. The parameters of 00_scope.md R6 and the free values: what an implementation fixes, and what no source fixes. -/

namespace Sys2Proof

/-- `UPDATE_LATCH` (R6, R183): when a register write reaches the running counter. -/
inductive UpdateLatch where
  | cycleBoundary
  | immediate
  deriving DecidableEq, Repr

/-- `COMPARE_EDGE` (R6, R182): whether the output is high while `CNT < CMP_A` or while `CNT <= CMP_A`. -/
inductive CompareEdge where
  | lt
  | le
  deriving DecidableEq, Repr

/-- The three waits of R32 and R152. -/
inductive WaitKind where
  | cooldown
  | interval
  | settle
  deriving DecidableEq, Repr

/-- Who moves next (R55, R176, R193): the issuer (CTRL, or the harness in its place), CNT, EXT asserting or
releasing the stop line, OBS, or the host asserting reset (R191). -/
inductive Move where
  | issuer
  | tick
  | extAssert
  | extDeassert
  | observe
  | hostReset
  deriving DecidableEq, Repr, Inhabited

/-- The parameters of R6, all nineteen, in its order. Durations are in milliseconds; no rule depends on them (R6). -/
structure Config where
  inputClockHz      : Nat
  prescaler         : Nat
  counterWidth      : Nat
  arithWidth        : Nat
  freqWidth         : Nat
  dutyWidth         : Nat
  fBase             : Nat
  dBase             : Nat
  fStep             : Nat
  dStep             : Nat
  fCeil             : Nat
  tCooldown         : Nat
  tInterval         : Nat
  tSettle           : Nat
  updateLatch       : UpdateLatch
  compareEdge       : CompareEdge
  stopAssertedLevel : Bool
  dirForwardLevel   : Bool
  extDeassert       : Bool
  deriving DecidableEq, Repr

/-- `T_COOLDOWN`, OPEN (R6, N13): no source gives it. -/
opaque Config.openCooldown : Nat
/-- `T_INTERVAL`, OPEN (R6, N13). -/
opaque Config.openInterval : Nat
/-- `STOP_ASSERTED_LEVEL`, OPEN (R6, N6): the pin level of an asserted stop latch. -/
opaque Config.openStopLevel : Bool
/-- `DIR_FORWARD_LEVEL`, OPEN (R6, N6): the pin level of a Forward direction latch. -/
opaque Config.openDirLevel : Bool

/-- The free schedule (R193 "The schedule that picks the next agent to step is a free parameter"): the move of the
n-th turn that the state's own schedule does not name. It has no body, so nothing can be proved about which move it is. -/
opaque Config.freeMove : Nat → Move

/-- The values this hardware takes (R6). -/
def Config.hw : Config where
  inputClockHz      := 16000000
  prescaler         := 8
  counterWidth      := 16
  arithWidth        := 32
  freqWidth         := 16
  dutyWidth         := 8
  fBase             := 500
  dBase             := 90
  fStep             := 100
  dStep             := 2
  fCeil             := 3000
  tCooldown         := Config.openCooldown
  tInterval         := Config.openInterval
  tSettle           := 3000
  updateLatch       := .cycleBoundary
  compareEdge       := .lt
  stopAssertedLevel := Config.openStopLevel
  dirForwardLevel   := Config.openDirLevel
  extDeassert       := false

/-- How long a wait lasts, in milliseconds; read by nothing in the machine (R152). -/
def Config.duration (c : Config) : WaitKind → Nat
  | .cooldown => c.tCooldown
  | .interval => c.tInterval
  | .settle   => c.tSettle

end Sys2Proof
end

