-- ==== Sys2Proof/Machine/State.lean ====
section
/-! DEFINITION. The state of the block (10_state.md R20) as plain data, the outcomes of a step, and the state after reset. -/

namespace Sys2Proof.Machine

/-- `DIR` (R28). -/
inductive Direction where
  | forward
  | reverse
  deriving DecidableEq, Repr

/-- `RUN` (R28). -/
inductive RunState where
  | running
  | stopped
  deriving DecidableEq, Repr

/-- `PH` (R29), the controller's phase. -/
inductive Phase where
  | boot
  | report
  | sample
  | cooldown
  | restart
  | wait
  | decide
  | repairCheck
  | repairStep
  | ceilStop
  | ceilReset
  | ceilDir
  | settle
  | halted
  deriving DecidableEq, Repr

/-- The events of `TRACE` (R32). -/
inductive Event where
  | lineCmp (c : Word)
  | linePer (p : Word)
  | lineFreq (f : Nat)
  | lineDuty (d : Nat)
  | stStopped
  | stStarted
  | stRotating
  | revStopped
  | revDir (d : Direction)
  | wait (t : WaitKind)
  deriving DecidableEq, Repr

/-- Who drives the command interface in this run (R84): CTRL or a harness. -/
inductive Mode where
  | controller
  | harness
  deriving DecidableEq, Repr

/-- The state of the block. The first nineteen fields are R20's record, in its order; those whose width is a parameter
of R6 are natural numbers (R8, log 30), and that each is below its bound is an invariant of the machine; `mode`, `prog` and `hidx` are
the harness's (R84); `cfg` holds the parameters of R6, which no step changes; `sched` and `turn` are the model's own
and hold the schedule (R193): the moves due next, and how many free choices have been taken. -/
structure State where
  /-- `PERIOD` (R21) -/
  period  : Nat
  /-- `COMPARE` (R22) -/
  compare : Nat
  /-- `CEN` (R23) -/
  cen     : Bool
  /-- `CNT` (R24) -/
  cnt     : Nat
  /-- `PER_A` (R24) -/
  perA    : Nat
  /-- `CMP_A` (R24) -/
  cmpA    : Nat
  /-- `IE` (R25) -/
  ie      : Bool
  /-- `STOP` (R26), true = asserted -/
  stop    : Bool
  /-- `DIRL` (R27), false = Forward -/
  dirl    : Bool
  /-- `FREQ` (R28) -/
  freq    : Nat
  /-- `DUTY` (R28) -/
  duty    : Nat
  /-- `DIR` (R28) -/
  dir     : Direction
  /-- `RUN` (R28) -/
  run     : RunState
  /-- `PH` (R29) -/
  ph      : Phase
  /-- `RESP` (R30) -/
  resp    : Word
  /-- `FAULT` (R31), 0 = none -/
  fault   : FaultWord
  /-- `FINFO` (R31) -/
  finfo   : Word
  /-- `TRACE` (R32), oldest first -/
  trace   : List Event
  /-- `OBSLOG` (R33), oldest first -/
  obslog  : List (Nat × Nat)
  /-- the issuer of this run (R84) -/
  mode    : Mode
  /-- the harness's list of command words (R84) -/
  prog    : List Word
  /-- the harness's index into its list (R84) -/
  hidx    : Nat
  /-- the parameters (R6) -/
  cfg     : Config
  /-- the moves due next (R193) -/
  sched   : List Move
  /-- how many free choices of the schedule have been taken (R193) -/
  turn    : Nat
  deriving DecidableEq, Repr

/-- Reasons a step stops the machine. There is none: a fault of the block (R170) is a state with `FAULT` set, in which
the counter, EXT and OBS go on (R171), so it is a next state; the spec stops the block nowhere else. -/
inductive Fault where
  deriving DecidableEq, Repr

/-- Reasons the model has no meaning for a step. -/
inductive Refusal where
  /-- An instruction without a meaning, raised by `exec` only. Safe: no claim can be proved through it. -/
  | notModelled (mnemonic : String)
  /-- The configuration breaks a constraint of R7 ("A configuration that breaks a constraint is refused"); raised by
  the step. Safe: the spec itself gives such a configuration no meaning. -/
  | badConfig
  /-- A width of the configuration does not fit a width the spec fixes (`widthsFit`, log 2), so that a rule of the spec
  would give a value that its place cannot hold; raised by the step. Safe: no claim can be proved through it. -/
  | widthMismatch
  deriving DecidableEq, Repr

/-- What a step answers. -/
abbrev StepOutcome := Host.Outcome State Fault Refusal

/-- R210, R36: the state after reset under a configuration, in controller mode with no harness list and nothing
scheduled. -/
def State.powerOn (c : Config) : State where
  period  := 0
  compare := 0
  cen     := false
  cnt     := 0
  perA    := 0
  cmpA    := 0
  ie      := false
  stop    := false
  dirl    := false
  freq    := c.fBase
  duty    := c.dBase
  dir     := .forward
  run     := .running
  ph      := .boot
  resp    := 0
  fault   := 0
  finfo   := 0
  trace   := []
  obslog  := []
  mode    := .controller
  prog    := []
  hidx    := 0
  cfg     := c
  sched   := []
  turn    := 0

/-- The state of this hardware after reset (R210). -/
def State.reset : State := State.powerOn Config.hw

end Sys2Proof.Machine
end

