-- ==== Sys2Proof/Machine/Ops.lean ====
section
/-! DEFINITION. The named operations over the registers, the critical section, the active copies, the diagnostic
stream, and taking a fault (60_exceptions.md R171). The block has no memory (20_memory.md R50) and no return from a
fault (60_exceptions.md R173, R174). -/

namespace Sys2Proof.Machine

/-! ## Writes of one register or of a pair -/

/-- `resp v` (R9): `RESP <- v`. -/
def State.respond (s : State) (v : Word) : State := { s with resp := v }
/-- `PERIOD <- p`. -/
def State.setPeriod (s : State) (p : Nat) : State := { s with period := p }
/-- `COMPARE <- c`. -/
def State.setCompare (s : State) (c : Nat) : State := { s with compare := c }
/-- `IE <- b`. -/
def State.setIe (s : State) (b : Bool) : State := { s with ie := b }
/-- `CNT <- n`. -/
def State.setCnt (s : State) (n : Nat) : State := { s with cnt := n }
/-- `PER_A <- p; CMP_A <- c` (R24). -/
def State.loadActive (s : State) (p c : Nat) : State := { s with perA := p, cmpA := c }
/-- `CEN <- 1; CNT <- 0; PER_A <- p; CMP_A <- c` (R94): a stopped counter starts. -/
def State.startCounter (s : State) (p c : Nat) : State :=
  { s with cen := true, cnt := 0, perA := p, cmpA := c }
/-- `STOP <- b`. -/
def State.setStop (s : State) (b : Bool) : State := { s with stop := b }
/-- `DIRL <- b`. -/
def State.setDirl (s : State) (b : Bool) : State := { s with dirl := b }
/-- `FREQ <- f`. -/
def State.setFreq (s : State) (f : Nat) : State := { s with freq := f }
/-- `DUTY <- d`. -/
def State.setDuty (s : State) (d : Nat) : State := { s with duty := d }
/-- `DIR <- d`. -/
def State.setDir (s : State) (d : Direction) : State := { s with dir := d }
/-- `RUN <- r`. -/
def State.setRun (s : State) (r : RunState) : State := { s with run := r }
/-- `PH <- p` (R9). -/
def State.goto (s : State) (p : Phase) : State := { s with ph := p }
/-- `emit` of some events, in order (R9): they are appended to `TRACE`. -/
def State.emit (s : State) (es : List Event) : State := { s with trace := s.trace ++ es }
/-- `wait(T)` (R152): the event `WAIT(T)` is appended and nothing else changes. -/
def State.waitFor (s : State) (t : WaitKind) : State := s.emit [.wait t]
/-- `FAULT <- code; FINFO <- info`. -/
def State.setFault (s : State) (code : FaultWord) (info : Word) : State :=
  { s with fault := code, finfo := info }
/-- `OBSLOG <- OBSLOG ++ [(PERIOD, COMPARE)]` (R190). -/
def State.observePair (s : State) : State := { s with obslog := s.obslog ++ [(s.period, s.compare)] }
/-- The harness's index moves to its next word (R84). -/
def State.nextWord (s : State) : State := { s with hidx := s.hidx + 1 }

/-! ## The critical section and the active copies -/

/-- R56: the bracket of SETF and SETD. The saved `IE` is restored after the writes, all inside one step. -/
def bracket (writes : State → State) (s : State) : State := (writes (s.setIe false)).setIe s.ie

/-- R56: the bracket of INIT, which leaves `IE = 1`. -/
def bracketEnable (writes : State → State) (s : State) : State := (writes (s.setIe false)).setIe true

/-- `apply_active()` (R183). -/
def applyActive (s : State) : State :=
  match s.cfg.updateLatch with
  | .immediate     => s.loadActive s.period s.compare
  | .cycleBoundary => s

/-! ## Faults -/

/-- The fault codes of R170. -/
inductive FaultCode where
  | illegalCmd
  | freqZero
  | periodRange
  | dutyRange
  | arithOverflow
  | freqOverflow
  | dutyUnderflow
  deriving DecidableEq, Repr

/-- The number `FAULT` holds for a code (R170). -/
def faultNumber : FaultCode → FaultWord
  | .illegalCmd    => 1
  | .freqZero      => 2
  | .periodRange   => 3
  | .dutyRange     => 4
  | .arithOverflow => 5
  | .freqOverflow  => 6
  | .dutyUnderflow => 7

/-- The operands of `raise Fault(code, info)` (R9), `code` as the number of R170. -/
structure Raise where
  code : FaultWord
  info : Word
  deriving DecidableEq, Repr

/-- `Fault(code, info)`. -/
def fault (code : FaultCode) (info : Word) : Raise := ⟨faultNumber code, info⟩

/-- `take_fault` (R171), applied to the state BEFORE the step (so every write and event of the step is discarded). The
first fault is kept. The issuer is CTRL exactly in controller mode (R84): then `PH <- P_HALTED`. A harness stops,
because it takes no step while `FAULT != 0`. -/
def takeFault (s : State) (r : Raise) : State :=
  let t := if s.fault = 0 then s.setFault r.code r.info else s
  match s.mode with
  | .controller => t.goto .halted
  | .harness    => t

/-- `exec`'s frame around one decoded command (R83): "a faulted block executes nothing"; otherwise the command's
result, or the fault it raises. -/
def perform (s : State) (result : Except Raise State) : StepOutcome :=
  if s.fault ≠ 0 then .next s
  else
    match result with
    | .ok t    => .next t
    | .error r => .next (takeFault s r)

/-! ## Reset -/

/-- R210, R211: the host asserts reset. Every field of R20 takes its reset value, and the harness, if there is one, is
put at the first word of its list; the issuer, its list, the parameters and the schedule are not the block's state and
stay. -/
def hostReset (s : State) : State :=
  { State.powerOn s.cfg with mode := s.mode, prog := s.prog, sched := s.sched, turn := s.turn }

end Sys2Proof.Machine
end

