-- ==== Sys2Proof/Machine/Operands.lean ====
section
/-! DEFINITION. The operand forms (30_encoding.md R72, R73), the generator's two arithmetic functions
(40_pwm_generator.md R91, R92) and the constraints on a configuration (00_scope.md R7). -/

namespace Sys2Proof.Machine

/-- `zext_32` of a frequency operand (R72). -/
def zextFreq (f : FreqWord) : Word := f.setWidth 32
/-- `zext_32` of a duty operand (R73). -/
def zextDuty (d : DutyWord) : Word := d.setWidth 32
/-- `zext_32` of a register whose width is a parameter (R97, R98, R170). It is exact while the value is below `2^32`, as
every value within the widths of a configuration is (`widthsFit`). -/
def zextReg (v : Nat) : Word := BitVec.ofNat 32 v
/-- `zext_32` of a latch (R121): 1 if asserted, 0 if not. -/
def zextBit (b : Bool) : Word := if b then 1 else 0

/-- `PeriodOf(f)` (R91): exact on naturals, each result checked against its width. -/
def periodOf (c : Config) (f : FreqWord) : Except Raise Nat :=
  if f = 0 then .error (fault .freqZero (zextFreq f))
  else if c.prescaler * f.toNat ≥ 2 ^ c.arithWidth then .error (fault .arithOverflow (zextFreq f))
  else if c.inputClockHz / (c.prescaler * f.toNat) = 0 then .error (fault .periodRange (zextFreq f))
  else if c.inputClockHz / (c.prescaler * f.toNat) - 1 ≥ 2 ^ c.counterWidth then
    .error (fault .periodRange (zextFreq f))
  else .ok (c.inputClockHz / (c.prescaler * f.toNat) - 1)

/-- `CompareOf(p, d)` (R92). -/
def compareOf (c : Config) (p : Nat) (d : DutyWord) : Except Raise Nat :=
  if d.toNat > 100 then .error (fault .dutyRange (zextDuty d))
  else if p * d.toNat ≥ 2 ^ c.arithWidth then .error (fault .arithOverflow (zextDuty d))
  else .ok (p * d.toNat / 100)

/-- `PeriodOf(F_BASE)` does not fault (R7), where `F_BASE` fits the operand of PeriodOf (`widthsFit`). -/
def basePeriodFits (c : Config) : Bool :=
  match periodOf c (BitVec.ofNat 16 c.fBase) with
  | .ok _    => true
  | .error _ => false

/-- The constraints of R7, in its order. -/
def constraintsHold (c : Config) : Bool :=
  decide (c.inputClockHz < 2 ^ c.arithWidth) &&
  decide (1 ≤ c.prescaler) &&
  decide (c.counterWidth ≤ c.arithWidth) &&
  decide (1 ≤ c.fBase) &&
  decide (c.dBase ≤ 100) &&
  decide (c.fBase < 2 ^ c.freqWidth) &&
  decide (c.fCeil < 2 ^ c.freqWidth) &&
  decide (1 ≤ c.dStep) &&
  basePeriodFits c

/-- The widths of a configuration fit what R6 does not make a parameter: `zext_32` of a counter-wide register is a 32-bit
word (R8, R30), a frequency and a duty that CTRL passes to a command fit the fields `F` and `D` (R71 to R73), and `DUTY`
can hold the baseline (R20, R28). DEDUCED (log 2): R7 does not list these. -/
def widthsFit (c : Config) : Bool :=
  decide (c.counterWidth ≤ respWidth) &&
  decide (c.freqWidth ≤ freqFieldWidth) &&
  decide (c.dutyWidth ≤ dutyFieldWidth) &&
  decide (c.dBase < 2 ^ c.dutyWidth)

/-- A configuration that the machine has a meaning for. -/
def configValid (c : Config) : Bool := widthsFit c && constraintsHold c

end Sys2Proof.Machine
end

