-- ==== Sys2Proof/Machine/Generator.lean ====
section
/-! DEFINITION. The five commands of the PWM Generator (40_pwm_generator.md R94 to R98). -/

namespace Sys2Proof.Machine

/-- INIT's part after its register writes (R94): start a stopped counter, else `apply_active()`. -/
def startOrApply (p c : Nat) (s : State) : State :=
  if s.cen then applyActive s else s.startCounter p c

/-- INIT's writes (R94). -/
def installPair (p c : Nat) (s : State) : State :=
  bracketEnable (fun t => startOrApply p c ((t.setPeriod p).setCompare c)) s

/-- SETF's writes (R95). -/
def installPeriod (p : Nat) (s : State) : State :=
  bracket (fun t => applyActive (t.setPeriod p)) s

/-- SETD's writes (R96). -/
def installCompare (c : Nat) (s : State) : State :=
  bracket (fun t => applyActive (t.setCompare c)) s

/-- `INIT(f, d)` (R94): both values are computed, and may fault, before any write. -/
def initResult (f : FreqWord) (d : DutyWord) (s : State) : Except Raise State :=
  match periodOf s.cfg f with
  | .error r => .error r
  | .ok p =>
    match compareOf s.cfg p d with
    | .error r => .error r
    | .ok c    => .ok (installPair p c s)

/-- `SETF(f)` (R95). -/
def setfResult (f : FreqWord) (s : State) : Except Raise State :=
  match periodOf s.cfg f with
  | .error r => .error r
  | .ok p    => .ok (installPeriod p s)

/-- `SETD(d)` (R96): the period is the register `PERIOD`, not the active copy. -/
def setdResult (d : DutyWord) (s : State) : Except Raise State :=
  match compareOf s.cfg s.period d with
  | .error r => .error r
  | .ok c    => .ok (installCompare c s)

/-- `INIT f, d` (R94). -/
def execInit (f : FreqWord) (d : DutyWord) (s : State) : StepOutcome := perform s (initResult f d s)

/-- `SETF f` (R95). -/
def execSetf (f : FreqWord) (s : State) : StepOutcome := perform s (setfResult f s)

/-- `SETD d` (R96). -/
def execSetd (d : DutyWord) (s : State) : StepOutcome := perform s (setdResult d s)

/-- `RDPER` (R97). -/
def execRdper (s : State) : StepOutcome := perform s (.ok (s.respond (zextReg s.period)))

/-- `RDCMP` (R98). -/
def execRdcmp (s : State) : StepOutcome := perform s (.ok (s.respond (zextReg s.compare)))

end Sys2Proof.Machine
end

