-- ==== Sys2Proof/Machine/Latches.lean ====
section
/-! DEFINITION. The four latch commands (41_latches.md R120 to R124). None touches `IE`, `RUN` or `DIR` (R120). -/

namespace Sys2Proof.Machine

/-- `RDSTOP` (R121). -/
def execRdstop (s : State) : StepOutcome := perform s (.ok (s.respond (zextBit s.stop)))

/-- `CLRSTOP` (R122). -/
def execClrstop (s : State) : StepOutcome := perform s (.ok (s.setStop false))

/-- `TGLSTOP` (R123): one atomic read-modify-write. -/
def execTglstop (s : State) : StepOutcome := perform s (.ok (s.setStop (!s.stop)))

/-- `TGLDIR` (R124). -/
def execTgldir (s : State) : StepOutcome := perform s (.ok (s.setDirl (!s.dirl)))

end Sys2Proof.Machine
end

