-- ==== Sys2Proof/Machine/Dispatch.lean ====
section
/-! DEFINITION. The meaning of every command: one arm per row of spec/opcode_table.json. -/

namespace Sys2Proof.Machine

def exec (i : Instr) (s : State) : Host.Outcome State Fault Refusal :=
  match i with
  | .init f d => Sys2Proof.Machine.execInit f d s
  | .setf f => Sys2Proof.Machine.execSetf f s
  | .setd d => Sys2Proof.Machine.execSetd d s
  | .rdper => Sys2Proof.Machine.execRdper s
  | .rdcmp => Sys2Proof.Machine.execRdcmp s
  | .rdstop => Sys2Proof.Machine.execRdstop s
  | .clrstop => Sys2Proof.Machine.execClrstop s
  | .tglstop => Sys2Proof.Machine.execTglstop s
  | .tgldir => Sys2Proof.Machine.execTgldir s

end Sys2Proof.Machine
end

