-- ==== Sys2Proof/Machine/Flags.lean ====
section
/-! DEFINITION. The block has no flags register (10_state.md R34). What stands in the place of flag computations: the
comparisons that steps branch on, and the codes software sees for `FAULT` and `PH`. -/

namespace Sys2Proof.Machine

/-- The test of the repair loop (R143): `c > p`, unsigned, on the responses as read. -/
def compareExceeds (c p : Word) : Bool := decide (c.toNat > p.toNat)

/-- The ceiling test (R142): `FREQ < F_CEIL`. -/
def belowCeiling (c : Config) (f : Nat) : Bool := decide (f < c.fCeil)

/-- The top test of TICK (R180): `CNT >= PER_A`. -/
def atTop (s : State) : Bool := decide (s.cnt ≥ s.perA)

/-- `active(n, c)` (R182). -/
def activeEdge (e : CompareEdge) (n c : Nat) : Bool :=
  match e with
  | .lt => decide (n < c)
  | .le => decide (n ≤ c)

/-- The code of a phase (R29); 14 and 15 are held by none. -/
def phaseCode : Phase → BitVec 4
  | .boot        => 0
  | .report      => 1
  | .sample      => 2
  | .cooldown    => 3
  | .restart     => 4
  | .wait        => 5
  | .decide      => 6
  | .repairCheck => 7
  | .repairStep  => 8
  | .ceilStop    => 9
  | .ceilReset   => 10
  | .ceilDir     => 11
  | .settle      => 12
  | .halted      => 13

end Sys2Proof.Machine
end

