-- ==== Sys2Proof/Machine/Ramp.lean ====
section
/-! DEFINITION. The Ramp Controller, agent CTRL (45_ramp_controller.md R135 to R149): one atomic step per phase. -/

namespace Sys2Proof.Machine

/-- A phase issues one command (R82, R83) on its working state `t` and goes on with `next`. If the command faults, the
whole phase is discarded and the fault is taken on the state `s` before the phase (R135, R171). -/
def issue (s : State) (i : Instr) (t : State) (next : State → StepOutcome) : StepOutcome :=
  match exec i t with
  | .next u    => if u.fault = 0 then next u else .next (takeFault s ⟨u.fault, u.finfo⟩)
  | .fault r   => .fault r
  | .refused r => .refused r

/-- `INIT F_BASE, D_BASE` (R82). -/
def baselineInit (c : Config) : Instr := .init (BitVec.ofNat 16 c.fBase) (BitVec.ofNat 8 c.dBase)

/-- `FREQ <- F_BASE; DUTY <- D_BASE`. -/
def setBaseline (s : State) : State :=
  (s.setFreq s.cfg.fBase).setDuty s.cfg.dBase

/-- `P_BOOT` (R136). -/
def phaseBoot (s : State) : StepOutcome :=
  issue s (baselineInit s.cfg) (((setBaseline s).setDir .forward).setRun .running) fun t =>
    .next (t.goto .report)

/-- `P_REPORT` (R137). -/
def phaseReport (s : State) : StepOutcome :=
  issue s .rdcmp s fun t =>
    issue s .rdper t fun u =>
      .next ((u.emit [.lineCmp t.resp, .linePer u.resp, .lineFreq u.freq, .lineDuty u.duty]).goto .sample)

/-- `P_SAMPLE` (R138). -/
def phaseSample (s : State) : StepOutcome :=
  issue s .rdstop s fun t =>
    if t.resp = 1 then .next (((t.setRun .stopped).emit [.stStopped]).goto .cooldown)
    else .next (((t.setRun .running).emit [.stRotating]).goto .wait)

/-- `P_COOLDOWN` (R139). -/
def phaseCooldown (s : State) : StepOutcome := .next ((s.waitFor .cooldown).goto .restart)

/-- `P_RESTART` (R140). -/
def phaseRestart (s : State) : StepOutcome :=
  issue s .clrstop s fun t => .next (((t.setRun .running).emit [.stStarted]).goto .wait)

/-- `P_WAIT` (R141). -/
def phaseWait (s : State) : StepOutcome := .next ((s.waitFor .interval).goto .decide)

/-- `P_DECIDE` (R142). -/
def phaseDecide (s : State) : StepOutcome :=
  if belowCeiling s.cfg s.freq then
    if s.freq + s.cfg.fStep ≥ 2 ^ s.cfg.freqWidth then
      .next (takeFault s (fault .freqOverflow (zextReg s.freq)))
    else
      issue s (.setf (BitVec.ofNat 16 (s.freq + s.cfg.fStep))) s fun t =>
        .next ((t.setFreq (s.freq + s.cfg.fStep)).goto .repairCheck)
  else .next (s.goto .ceilStop)

/-- `P_REPAIR_CHECK` (R143): the registers are read back at every test. -/
def phaseRepairCheck (s : State) : StepOutcome :=
  issue s .rdcmp s fun t =>
    issue s .rdper t fun u =>
      if compareExceeds t.resp u.resp then .next (u.goto .repairStep) else .next (u.goto .report)

/-- `P_REPAIR_STEP` (R144). -/
def phaseRepairStep (s : State) : StepOutcome :=
  if s.duty < s.cfg.dStep then .next (takeFault s (fault .dutyUnderflow (zextReg s.duty)))
  else
    issue s (.setd (BitVec.ofNat 8 (s.duty - s.cfg.dStep))) s fun t =>
      .next ((t.setDuty (s.duty - s.cfg.dStep)).goto .repairCheck)

/-- `P_CEIL_STOP` (R145). -/
def phaseCeilStop (s : State) : StepOutcome :=
  issue s .tglstop s fun t =>
    .next (((t.setRun (if t.stop then .stopped else .running)).emit [.revStopped]).goto .ceilReset)

/-- `P_CEIL_RESET` (R146). -/
def phaseCeilReset (s : State) : StepOutcome :=
  issue s (baselineInit s.cfg) s fun t => .next ((setBaseline t).goto .ceilDir)

/-- The other direction (R147). -/
def flipDirection : Direction → Direction
  | .forward => .reverse
  | .reverse => .forward

/-- `P_CEIL_DIR` (R147). -/
def phaseCeilDir (s : State) : StepOutcome :=
  issue s .tgldir s fun t =>
    .next (((t.setDir (flipDirection t.dir)).emit [.revDir (flipDirection t.dir)]).goto .settle)

/-- `P_SETTLE` (R148). -/
def phaseSettle (s : State) : StepOutcome := .next ((s.waitFor .settle).goto .report)

/-- One CTRL step (R135). CTRL is not enabled in `P_HALTED` (R149) or while `FAULT != 0`: then nothing changes. -/
def ctrlStep (s : State) : StepOutcome :=
  if s.fault ≠ 0 then .next s
  else
    match s.ph with
    | .boot        => phaseBoot s
    | .report      => phaseReport s
    | .sample      => phaseSample s
    | .cooldown    => phaseCooldown s
    | .restart     => phaseRestart s
    | .wait        => phaseWait s
    | .decide      => phaseDecide s
    | .repairCheck => phaseRepairCheck s
    | .repairStep  => phaseRepairStep s
    | .ceilStop    => phaseCeilStop s
    | .ceilReset   => phaseCeilReset s
    | .ceilDir     => phaseCeilDir s
    | .settle      => phaseSettle s
    | .halted      => .next s

end Sys2Proof.Machine
end

