-- ==== Sys2Proof/Machine/Agents.lean ====
section
/-! DEFINITION. The issuer (CTRL or the harness, 30_encoding.md R83, R84), the agents CNT, EXT and OBS
(60_exceptions.md R179 to R190), the host's reset, and the schedule (60_exceptions.md R193). -/

namespace Sys2Proof.Machine

/-- `exec(w)` (R83): a faulted block executes nothing; an illegal word takes `ILLEGAL_CMD` with the word as information
(R75, R76); any other word is the command it decodes to. -/
def execWord (w : Word) (s : State) : StepOutcome :=
  if s.fault ≠ 0 then .next s
  else
    match decode w with
    | .error _ => .next (takeFault s (fault .illegalCmd w))
    | .ok i    => exec i s

/-- The word the harness executes next (R84); none after the last word or once the block has faulted. -/
def harnessWord (s : State) : Option Word := if s.fault = 0 then s.prog[s.hidx]? else none

/-- The harness's index after a word: it moves on, unless the word faulted, at which the harness stops (R84, R171). -/
def afterWord (s : State) : State := if s.fault = 0 then s.nextWord else s

/-- One harness step (R84). -/
def harnessStep (s : State) : StepOutcome :=
  match harnessWord s with
  | none   => .next s
  | some w =>
    match execWord w s with
    | .next t    => .next (afterWord t)
    | .fault r   => .fault r
    | .refused r => .refused r

/-- One step of the issuer of this run (R84): CTRL takes no step in harness mode, nor the harness in controller mode. -/
def issuerStep (s : State) : StepOutcome :=
  match s.mode with
  | .controller => ctrlStep s
  | .harness    => harnessStep s

/-- TICK, the CNT step (R179, R180): enabled iff `CEN = 1`. -/
def tick (s : State) : State :=
  if s.cen then
    if atTop s then
      match s.cfg.updateLatch with
      | .cycleBoundary => (s.setCnt 0).loadActive s.period s.compare
      | .immediate     => s.setCnt 0
    else s.setCnt (s.cnt + 1)
  else s

/-- `EXT_ASSERT` (R186): always enabled. -/
def extAssert (s : State) : State := s.setStop true

/-- `EXT_DEASSERT` (R186): enabled iff the parameter `EXT_DEASSERT` is true. -/
def extDeassert (s : State) : State := if s.cfg.extDeassert then s.setStop false else s

/-- `OBS_READ` (R190): enabled iff `IE = 1`. -/
def obsRead (s : State) : State := if s.ie then s.observePair else s

/-- The step of one agent. An agent that is not enabled changes nothing. -/
def agentStep (m : Move) (s : State) : StepOutcome :=
  match m with
  | .issuer      => issuerStep s
  | .tick        => .next (tick s)
  | .extAssert   => .next (extAssert s)
  | .extDeassert => .next (extDeassert s)
  | .observe     => .next (obsRead s)
  | .hostReset   => .next (hostReset s)

/-- The move that is due: the first the state's schedule names, else a free one (R193). -/
def dueMove (s : State) : Move :=
  match s.sched with
  | m :: _ => m
  | []     => Config.freeMove s.turn

/-- The state once the due move has been taken from the schedule. -/
def takeTurn (s : State) : State :=
  match s.sched with
  | _ :: rest => { s with sched := rest }
  | []        => { s with turn := s.turn + 1 }

/-- One step of the whole block: one agent's atomic step (R55). A configuration that breaks R7, or whose widths do not
fit, is refused. -/
def blockStep (s : State) : StepOutcome :=
  if widthsFit s.cfg then
    if constraintsHold s.cfg then agentStep (dueMove s) (takeTurn s) else .refused .badConfig
  else .refused .widthMismatch

/-- The state in which the harness drives the interface (R84) and its next word, due in the very next step, is `w`. -/
def placeWord (s : State) (w : Word) : State :=
  { s with
    mode  := .harness
    prog  := s.prog.take s.hidx ++ w :: s.prog.drop (s.hidx + 1)
    hidx  := min s.hidx s.prog.length
    sched := .issuer :: s.sched }

/-- A run from reset in harness mode (R84), with a list of words and the moves due first. -/
def harnessRun (words : List Word) (sched : List Move) : State :=
  { State.reset with mode := .harness, prog := words, sched := sched }

/-- A run from reset in controller mode, with the moves due first. -/
def controllerRun (sched : List Move) : State := { State.reset with sched := sched }

end Sys2Proof.Machine
end

