-- ==== Sys2Proof/Machine/Step.lean ====
section
/-! DEFINITION. One step of the machine, and placing a command word where the next step takes it. -/

namespace Sys2Proof.Machine

/-- One step: the step of the agent whose turn it is. -/
def step (s : State) : Host.Outcome State Fault Refusal := Sys2Proof.Machine.blockStep s

/-- `s` with the harness (R84) about to execute, in the very next step, the word whose first `nbits` bits are those of
`w` and whose other bits are 0. -/
def State.withFetchWord (s : State) (nbits w : Nat) : State :=
  Sys2Proof.Machine.placeWord s (BitVec.ofNat 32 (w % 2 ^ nbits))

end Sys2Proof.Machine
end

