-- ==== Sys2Proof/Machine/Outputs.lean ====
section
/-! DEFINITION. What the outside sees of a state: the three pins (10_state.md R35, 41_latches.md R125, 60_exceptions.md
R182), the diagnostic stream (10_state.md R32) and the register index (20_memory.md R51). -/

namespace Sys2Proof.Machine

/-- `PWM_OUT` (R182). -/
def pwmOut (s : State) : Bool := s.cen && activeEdge s.cfg.compareEdge s.cnt s.cmpA

/-- `STOP_OUT` (R125). -/
def stopOut (s : State) : Bool := if s.stop then s.cfg.stopAssertedLevel else !s.cfg.stopAssertedLevel

/-- `DIR_OUT` (R125). -/
def dirOut (s : State) : Bool := if s.dirl then !s.cfg.dirForwardLevel else s.cfg.dirForwardLevel

/-- Whether an event is a diagnostic line (R32: `WAIT` is not). -/
def isDiagnostic : Event → Bool
  | .lineCmp _  => true
  | .linePer _  => true
  | .lineFreq _ => true
  | .lineDuty _ => true
  | .stStopped  => true
  | .stStarted  => true
  | .stRotating => true
  | .revStopped => true
  | .revDir _   => true
  | .wait _     => false

/-- The diagnostic stream of the source (R32): `TRACE` with the `WAIT` events removed. -/
def diagnostics (s : State) : List Event := s.trace.filter isDiagnostic

/-- `REG[i]` (R51), each register zero-extended to 32 bits. -/
def regRead (s : State) : Fin 7 → Word
  | 0 => zextReg s.period
  | 1 => zextReg s.compare
  | 2 => zextBit s.stop
  | 3 => zextBit s.dirl
  | 4 => s.resp
  | 5 => s.fault.setWidth 32
  | 6 => s.finfo

end Sys2Proof.Machine
end

