-- ==== Sys2Proof/Safety.lean ====
section
/-! DEFINITION. The terms in which claims speak of runs: whose turn it is, runs of several steps, the parameter values
of this hardware, and the invariants of the block. -/

namespace Sys2Proof.Machine

/-- It is CTRL's turn and CTRL is not stopped by a fault (R135). -/
abbrev CtrlTurn (s : State) : Prop :=
  configValid s.cfg = true ∧ dueMove s = .issuer ∧ s.mode = .controller ∧ s.fault = 0

/-- It is the harness's turn and the harness is not stopped by a fault (R84). -/
abbrev HarnessTurn (s : State) : Prop :=
  configValid s.cfg = true ∧ dueMove s = .issuer ∧ s.mode = .harness ∧ s.fault = 0

/-- The clock, the prescaler and the widths of the arithmetic and of the counter of this hardware (R6). -/
abbrev HwArith (c : Config) : Prop :=
  c.inputClockHz = 16000000 ∧ c.prescaler = 8 ∧ c.counterWidth = 16 ∧ c.arithWidth = 32

/-- The ramp constants of this hardware (R6). -/
abbrev HwRamp (c : Config) : Prop :=
  c.fBase = 500 ∧ c.dBase = 90 ∧ c.fStep = 100 ∧ c.dStep = 2 ∧ c.fCeil = 3000

/-- `k` steps of the machine, stopping where a step does not answer a next state. -/
def runSteps : Nat → State → StepOutcome
  | 0, s => .next s
  | k + 1, s =>
    match step s with
    | .next t    => runSteps k t
    | .fault r   => .fault r
    | .refused r => .refused r

/-- `k` ticks of the counter. -/
def tickTimes : Nat → State → State
  | 0, s => s
  | k + 1, s => tickTimes k (tick s)

/-- What an active copy holds after `apply_active()` (R183), when its register then holds `reg` and it held `act`. -/
def activeAfter (c : Config) (reg act : Nat) : Nat :=
  match c.updateLatch with
  | .immediate     => reg
  | .cycleBoundary => act

/-- A state no claim may accept as final is one with a fault taken (R174); a safe one has none. -/
abbrev Unfaulted (s : State) : Prop := s.fault = 0

/-- R20: every register whose width is a parameter, and every pair of `OBSLOG`, holds values of that width. -/
def widthsHeld (s : State) : Bool :=
  fits s.cfg.counterWidth s.period && fits s.cfg.counterWidth s.compare && fits s.cfg.counterWidth s.cnt &&
  fits s.cfg.counterWidth s.perA && fits s.cfg.counterWidth s.cmpA &&
  fits s.cfg.freqWidth s.freq && fits s.cfg.dutyWidth s.duty &&
  s.obslog.all fun e => fits s.cfg.counterWidth e.1 && fits s.cfg.counterWidth e.2

/-- R20's types, as an invariant of the state. -/
abbrev WidthInv (s : State) : Prop := widthsHeld s = true

/-- R162: in controller mode `COMPARE <= PERIOD` holds outside the transient window of R213 (the repair phases) and
outside `P_HALTED`; in particular at every `P_REPORT`. -/
abbrev ReportInv (s : State) : Prop :=
  s.mode = .controller → s.ph ≠ .repairCheck → s.ph ≠ .repairStep → s.ph ≠ .halted →
    s.compare ≤ s.period

/-- R180: "Under `CYCLE_BOUNDARY`, `CNT <= PER_A` always holds". -/
abbrev CounterInv (s : State) : Prop :=
  s.cfg.updateLatch = .cycleBoundary → s.cnt ≤ s.perA

/-- R24: "With `UPDATE_LATCH = IMMEDIATE` they equal `PERIOD` and `COMPARE` at every step". -/
abbrev ImmediateInv (s : State) : Prop :=
  s.cfg.updateLatch = .immediate → s.perA = s.period ∧ s.cmpA = s.compare

/-- R28: "`DIR = Reverse` iff `DIRL = 1` at all times" (in controller mode; a harness writes only the latch, R120).
Before `P_BOOT` the latch is Forward. -/
abbrev DirectionInv (s : State) : Prop :=
  s.mode = .controller → (s.dir = .reverse ↔ s.dirl = true) ∧ (s.ph = .boot → s.dirl = false)

/-- R156: "`DUTY <= 100` holds in every reachable state". -/
abbrev DutyInv (s : State) : Prop := s.duty ≤ 100

/-- R170, R171, R31: `FAULT` holds a code of R170, `FINFO` is 0 without a fault, and CTRL is halted exactly when it has
taken a fault. -/
abbrev FaultInv (s : State) : Prop :=
  s.fault.toNat ≤ 7 ∧ (s.fault = 0 → s.finfo = 0) ∧ (s.mode = .controller → (s.ph = .halted ↔ s.fault ≠ 0))

/-- What an iteration of the ramp adds to its five steps (R161): two for a stop, two for a repair, three at the
ceiling. -/
def iterationSteps (s : State) : Nat :=
  5 + (if s.stop then 2 else 0) +
    (if s.freq < 3000 then
      (if 2000000 / (s.freq + 100) - 1 < s.compare then 2 else 0)
    else 3)

end Sys2Proof.Machine
end

