-- ==== Sys2Proof/Certificates/Slice0/Obligations.lean ====
section
/-! DEFINITION. The statements about the block, from the numbered rules of spec/. -/

open Sys2Proof Sys2Proof.Machine

/-! ## Encoding (30_encoding.md) -/

/-- R85: the words of the representative commands decode to those commands, and the illegal words are refused. -/
def Obligations.RepresentativeWordsDecode : Prop :=
  decode 0x105A01F4 = .ok (.init 500 90) ∧ decode 0x20000258 = .ok (.setf 600) ∧
  decode 0x20000BB8 = .ok (.setf 3000) ∧ decode 0x30580000 = .ok (.setd 88) ∧
  decode 0x30650000 = .ok (.setd 101) ∧ decode 0x40000000 = .ok .rdper ∧ decode 0x50000000 = .ok .rdcmp ∧
  decode 0x60000000 = .ok .rdstop ∧ decode 0x70000000 = .ok .clrstop ∧ decode 0x80000000 = .ok .tglstop ∧
  decode 0x90000000 = .ok .tgldir ∧ decode 0x00000000 = .error .reservedOpcode ∧
  decode 0x21000258 = .error .reservedBits ∧ decode 0x20010258 = .error .unusedField ∧
  decode 0x40000001 = .error .unusedField ∧ decode 0xA0000000 = .error .reservedOpcode

/-- R78: `decode(encode(c)) = c` for every command, at every value of every operand. -/
def Obligations.DecodeOfEncode : Prop := ∀ i : Instr, decode (encode i) = .ok i

/-- R78: `encode(decode(w)) = w` for every word that decodes to a command. -/
def Obligations.EncodeOfDecode : Prop := ∀ (w : Word) (i : Instr), decode w = .ok i → encode i = w

/-- R74, R77: a word is a command exactly if a row of the opcode table accepts it; then only that command's row does. -/
def Obligations.DecodeAgreesWithOpcodeTable : Prop :=
  (∀ w : Word, (∃ i, decode w = .ok i) ↔ ∃ r ∈ opcodeTable, r.accepts w = true) ∧
  (∀ (w : Word) (i : Instr), decode w = .ok i → ∀ r ∈ opcodeTable, r.accepts w = true ↔ r = i.tableRow)

/-- R75, R76 (the spec's own decisions D8, D37): a word with a reserved opcode, or with a bit set in `RSV` or in a
field its command does not use, takes `ILLEGAL_CMD` (code 1) with the word in `FINFO`, and is not executed: nothing
else changes but that CTRL halts. -/
def Obligations.IllegalWordTakesIllegalCmd : Prop :=
  ∀ (w : Word) (s : State), s.fault = 0 →
    (rsvField w ≠ 0 ∨
      (opField w = 2 ∧ dutyField w ≠ 0) ∨
      (opField w = 3 ∧ freqField w ≠ 0) ∨
      (4 ≤ (opField w).toNat ∧ (opField w).toNat ≤ 9 ∧ (dutyField w ≠ 0 ∨ freqField w ≠ 0)) ∨
      opField w = 0 ∨ 10 ≤ (opField w).toNat) →
    execWord w s =
      .next { s with fault := 1, finfo := w, ph := if s.mode = .controller then .halted else s.ph }

/-- R53: a word sent least significant byte first (the spec's own decision D21) is decoded as the word, and the bytes
after it are left. -/
def Obligations.TransportDeliversWord : Prop :=
  ∀ (w : Word) (rest : List Byte),
    decodeBytes (wordBytes w ++ rest) = (decode w).map fun i => (i, rest)

/-! ## The step -/

/-- R83, R84: on the harness's turn the step executes the command its next word decodes to; the harness's index then
moves on, unless the word faulted. That the index stays at a word that faulted is the model's own deduction (log 8). -/
def Obligations.StepRunsDecodedCommand : Prop :=
  ∀ (s : State) (w : Word) (i : Instr), HarnessTurn s → s.prog[s.hidx]? = some w → decode w = .ok i →
    ∃ t, exec i (takeTurn s) = .next t ∧
      step s = .next (if t.fault = 0 then { t with hidx := t.hidx + 1 } else t)

/-- R84, R83: on an illegal word the harness takes `ILLEGAL_CMD` and its index stays (log 8); after its last word, or
once the block has faulted, its turn changes nothing but the schedule. -/
def Obligations.HarnessStopsAtFaultOrEnd : Prop :=
  (∀ (s : State) (w : Word) (e : DecodeError), HarnessTurn s → s.prog[s.hidx]? = some w → decode w = .error e →
    step s = .next { takeTurn s with fault := 1, finfo := w }) ∧
  (∀ s : State, configValid s.cfg = true → dueMove s = .issuer → s.mode = .harness →
    (s.fault ≠ 0 ∨ s.prog.length ≤ s.hidx) → step s = .next (takeTurn s))

/-- R7: a configuration that satisfies every constraint has a step from every state, and one that breaks a constraint
is refused. A configuration whose widths do not fit what R6 does not make a parameter is refused under a name of its
own (the model's own deduction, log 2). -/
def Obligations.StepAnswersNextUnlessConfigRefused : Prop :=
  ∀ s : State, (widthsFit s.cfg = true → constraintsHold s.cfg = true → ∃ t, step s = .next t) ∧
    (widthsFit s.cfg = true → constraintsHold s.cfg = false → step s = .refused .badConfig) ∧
    (widthsFit s.cfg = false → step s = .refused .widthMismatch)

/-! ## Arithmetic (40_pwm_generator.md R91 to R93, R99) -/

/-- R91: PeriodOf answers `p` exactly if `f > 0`, the denominator fits the arithmetic width, `p + 1` is the whole
quotient of the clock by it, and `p` fits the counter's width. -/
def Obligations.PeriodOfIsExactQuotient : Prop :=
  ∀ (c : Config) (f : FreqWord) (p : Nat),
    periodOf c f = .ok p ↔
      0 < f.toNat ∧ c.prescaler * f.toNat < 2 ^ c.arithWidth ∧
      c.prescaler * f.toNat * (p + 1) ≤ c.inputClockHz ∧
      c.inputClockHz < c.prescaler * f.toNat * (p + 2) ∧ p < 2 ^ c.counterWidth

/-- R91, R99, R170: with this hardware's values PeriodOf succeeds exactly for `31 <= f`, and its two faults are those of
the smaller frequencies; the periods of the ramp, `f = 500 + 100k` for `k` from 0 to 25, are those of R99's table. -/
def Obligations.PeriodOfOnThisHardware : Prop :=
  (∀ (c : Config) (f : FreqWord), HwArith c →
      (31 ≤ f.toNat → ∃ p, periodOf c f = .ok p ∧ p + 1 = 2000000 / f.toNat) ∧
      (f.toNat = 0 → periodOf c f = .error ⟨2, 0⟩) ∧
      (1 ≤ f.toNat → f.toNat ≤ 30 → periodOf c f = .error ⟨3, zextFreq f⟩)) ∧
  (((List.range 26).map fun k => periodOf Config.hw (BitVec.ofNat 16 (500 + 100 * k))) =
      ([3999, 3332, 2856, 2499, 2221, 1999, 1817, 1665, 1537, 1427, 1332, 1249, 1175, 1110, 1051, 999, 951, 908, 868,
        832, 799, 768, 739, 713, 688, 665] : List Nat).map .ok)

/-- R93: the laws of CompareOf, for every duty up to 100 and every period whose product fits the arithmetic width (every
period of a 16-bit counter with 32-bit arithmetic). -/
def Obligations.CompareOfLaws : Prop :=
  (∀ (c : Config) (p : Nat) (d : DutyWord), p * 100 < 2 ^ c.arithWidth → d.toNat ≤ 100 →
    ∃ v, compareOf c p d = .ok v ∧
      v ≤ p ∧
      (d.toNat = 100 → v = p) ∧
      (d.toNat = 0 → v = 0) ∧
      (∀ (q : Nat) (e : DutyWord) (u : Nat), p ≤ q → d.toNat ≤ e.toNat → compareOf c q e = .ok u → v ≤ u) ∧
      v = p * d.toNat / 100 ∧
      100 * v ≤ p * d.toNat ∧ p * d.toNat < 100 * (v + 1)) ∧
  (∀ (c : Config) (p : Nat), p < 2 ^ c.counterWidth → c.counterWidth ≤ 16 → c.arithWidth = 32 →
    p * 100 < 2 ^ c.arithWidth)

/-! ## The commands -/

/-- R94: INIT installs both registers, sets `IE`, and starts a stopped counter at 0 with the new pair; a running counter
is not restarted (the spec's own decision D12), and its active copies change only under `IMMEDIATE`; nothing else
changes. A fault of PeriodOf comes before one of CompareOf, and a faulting INIT writes nothing. -/
def Obligations.InitInstallsPair : Prop :=
  ∀ (f : FreqWord) (d : DutyWord) (s : State), s.fault = 0 →
    (∀ p c, periodOf s.cfg f = .ok p → compareOf s.cfg p d = .ok c →
      exec (.init f d) s = .next
        (if s.cen then
          { s with period := p, compare := c, ie := true,
                   perA := activeAfter s.cfg p s.perA, cmpA := activeAfter s.cfg c s.cmpA }
        else
          { s with period := p, compare := c, ie := true, cen := true, cnt := 0, perA := p, cmpA := c })) ∧
    (∀ r, periodOf s.cfg f = .error r → exec (.init f d) s = .next (takeFault s r)) ∧
    (∀ p r, periodOf s.cfg f = .ok p → compareOf s.cfg p d = .error r →
      exec (.init f d) s = .next (takeFault s r))

/-- R94, R91, R92, R172: INIT with this hardware's arithmetic, for every operand: it completes exactly for
`31 <= f` and `d <= 100`, and otherwise takes the first fault in R172's order. -/
def Obligations.InitOnThisHardware : Prop :=
  ∀ (f : FreqWord) (d : DutyWord) (s : State), s.fault = 0 → HwArith s.cfg →
    if f.toNat = 0 then exec (.init f d) s = .next (takeFault s ⟨2, 0⟩)
    else if f.toNat ≤ 30 then exec (.init f d) s = .next (takeFault s ⟨3, zextFreq f⟩)
    else if 100 < d.toNat then exec (.init f d) s = .next (takeFault s ⟨4, zextDuty d⟩)
    else ∃ t, exec (.init f d) s = .next t ∧ t.fault = 0 ∧
      t.period = 2000000 / f.toNat - 1 ∧
      t.compare = (2000000 / f.toNat - 1) * d.toNat / 100 ∧
      t.ie = true ∧ t.cen = true ∧
      (s.cen = false → t.cnt = 0 ∧ t.perA = t.period ∧ t.cmpA = t.compare) ∧ (s.cen = true → t.cnt = s.cnt)

/-- R95: SETF installs the period and nothing else (and the active copies under `IMMEDIATE`), before INIT too (the
spec's own decision D33), and takes PeriodOf's fault where there is one. -/
def Obligations.SetfInstallsPeriod : Prop :=
  ∀ (f : FreqWord) (s : State), s.fault = 0 →
    (∀ p, periodOf s.cfg f = .ok p →
      exec (.setf f) s = .next
        { s with period := p, perA := activeAfter s.cfg p s.perA, cmpA := activeAfter s.cfg s.compare s.cmpA }) ∧
    (∀ r, periodOf s.cfg f = .error r → exec (.setf f) s = .next (takeFault s r))

/-- R96: SETD installs the compare value of the register `PERIOD` (not of the active copy, the spec's own decision
D36) and nothing else (and the active copies under `IMMEDIATE`), and takes CompareOf's fault where there is one. Where
the product fits (as with 16-bit registers and 32-bit arithmetic) it completes for every `d <= 100`, with `PERIOD * d
/ 100`, at most `PERIOD`; for `d > 100` the fault is `DUTY_RANGE` (code 4). -/
def Obligations.SetdInstallsCompare : Prop :=
  ∀ (d : DutyWord) (s : State), s.fault = 0 →
    (∀ c, compareOf s.cfg s.period d = .ok c →
      exec (.setd d) s = .next
        { s with compare := c, perA := activeAfter s.cfg s.period s.perA, cmpA := activeAfter s.cfg c s.cmpA }) ∧
    (∀ r, compareOf s.cfg s.period d = .error r → exec (.setd d) s = .next (takeFault s r)) ∧
    (s.period * 100 < 2 ^ s.cfg.arithWidth → d.toNat ≤ 100 →
      ∃ c, compareOf s.cfg s.period d = .ok c ∧ c = s.period * d.toNat / 100 ∧ c ≤ s.period) ∧
    (100 < d.toNat → compareOf s.cfg s.period d = .error ⟨4, zextDuty d⟩)

/-- R97, R98, R121, R58 (reads at once and without side effects are the spec's own decision D39): each read command is
its one word, and answers the zero-extended register in `RESP` without a fault, changing nothing else; within the
widths of a valid configuration the response is the register's value. -/
def Obligations.ReadCommandsAnswerInResp : Prop :=
  encode .rdper = 0x40000000 ∧ encode .rdcmp = 0x50000000 ∧ encode .rdstop = 0x60000000 ∧
  ∀ s : State, s.fault = 0 →
    exec .rdper s = .next { s with resp := BitVec.ofNat 32 s.period } ∧
    exec .rdcmp s = .next { s with resp := BitVec.ofNat 32 s.compare } ∧
    exec .rdstop s = .next { s with resp := if s.stop then 1 else 0 } ∧
    (configValid s.cfg = true → WidthInv s →
      (BitVec.ofNat 32 s.period).toNat = s.period ∧ (BitVec.ofNat 32 s.compare).toNat = s.compare)

/-- R122: CLRSTOP is its one word, deasserts the stop latch whatever it held, and does not fault; an assertion by EXT
after it is seen by the next RDSTOP. -/
def Obligations.ClrstopDeassertsStopLatch : Prop :=
  encode .clrstop = 0x70000000 ∧
  ∀ s : State, s.fault = 0 →
    exec .clrstop s = .next { s with stop := false } ∧
    exec .rdstop (extAssert { s with stop := false }) = .next { s with stop := true, resp := 1 }

/-- R123: TGLSTOP is its one word, inverts the stop latch (it does not assert it: the spec's own decision D14) and does
not fault; a second TGLSTOP restores it. -/
def Obligations.TglstopInvertsStopLatch : Prop :=
  encode .tglstop = 0x80000000 ∧
  ∀ s : State, s.fault = 0 →
    exec .tglstop s = .next { s with stop := !s.stop } ∧
    exec .tglstop { s with stop := !s.stop } = .next s

/-- R124: TGLDIR is its one word, inverts the direction latch, leaves `DIR` to the issuing phase, and does not fault. No
command reads the latch: every other command does the same whatever it holds; and of the pins only the direction pin
depends on it. -/
def Obligations.TgldirInvertsDirectionLatch : Prop :=
  encode .tgldir = 0x90000000 ∧
  (∀ s : State, s.fault = 0 → exec .tgldir s = .next { s with dirl := !s.dirl }) ∧
  (∀ (i : Instr) (s t : State) (b : Bool), i ≠ .tgldir → exec i s = .next t →
    exec i { s with dirl := b } = .next { t with dirl := b }) ∧
  (∀ (s : State) (b : Bool), pwmOut { s with dirl := b } = pwmOut s ∧ stopOut { s with dirl := b } = stopOut s)

/-- R20 to R33, R51: what a command leaves unchanged, for all nine commands: a register changes only under the commands
that R51 and 10_state.md name as its writers, and RampState, the histories, the parameters and the schedule never. -/
def Obligations.CommandFrame : Prop :=
  ∀ (i : Instr) (s t : State), exec i s = .next t →
    t.freq = s.freq ∧ t.duty = s.duty ∧ t.dir = s.dir ∧ t.run = s.run ∧
    t.trace = s.trace ∧ t.obslog = s.obslog ∧ t.mode = s.mode ∧ t.prog = s.prog ∧ t.hidx = s.hidx ∧
    t.cfg = s.cfg ∧ t.sched = s.sched ∧ t.turn = s.turn ∧
    (t.fault = s.fault → t.finfo = s.finfo ∧ t.ph = s.ph) ∧
    (t.ie = s.ie ∨ (∃ f d, i = .init f d)) ∧
    (t.cen = s.cen ∧ t.cnt = s.cnt ∨ (∃ f d, i = .init f d)) ∧
    (t.period = s.period ∨ (∃ f d, i = .init f d) ∨ (∃ f, i = .setf f)) ∧
    (t.compare = s.compare ∨ (∃ f d, i = .init f d) ∨ (∃ d, i = .setd d)) ∧
    (t.perA = s.perA ∧ t.cmpA = s.cmpA ∨ (∃ f d, i = .init f d) ∨
      ((∃ f, i = .setf f) ∨ (∃ d, i = .setd d)) ∧ s.cfg.updateLatch = .immediate) ∧
    (t.resp = s.resp ∨ i = .rdper ∨ i = .rdcmp ∨ i = .rdstop) ∧
    (t.stop = s.stop ∨ i = .clrstop ∨ i = .tglstop) ∧
    (t.dirl = s.dirl ∨ i = .tgldir)

/-- R90, R171: a command that faults writes nothing but `FAULT`, `FINFO` and, if CTRL issued it, `PH`. -/
def Obligations.FaultingCommandIsPrecise : Prop :=
  ∀ (i : Instr) (s t : State), s.fault = 0 → exec i s = .next t → t.fault ≠ 0 →
    t = { s with fault := t.fault, finfo := t.finfo, ph := if s.mode = .controller then .halted else s.ph }

/-- R83, R171: a faulted block executes nothing, neither a decoded command nor a word. -/
def Obligations.FaultedBlockExecutesNothing : Prop :=
  ∀ s : State, s.fault ≠ 0 → (∀ i, exec i s = .next s) ∧ (∀ w, execWord w s = .next s)

/-- R83, R171: every command answers a next state from every state, in which `FAULT` is unchanged or one of the codes 2
to 5 that a command can raise (R170). -/
def Obligations.EveryCommandAnswersNext : Prop :=
  ∀ (i : Instr) (s : State), ∃ t, exec i s = .next t ∧
    (t.fault = s.fault ∨ t.fault = 2 ∨ t.fault = 3 ∨ t.fault = 4 ∨ t.fault = 5)

/-! ## The counter and the pins (60_exceptions.md R179 to R184, 41_latches.md R125) -/

/-- R179, R180: the CNT step. -/
def Obligations.TickCountsAndWraps : Prop :=
  ∀ s : State, configValid s.cfg = true → dueMove s = .tick →
    step s = .next
      (if s.cen then
        (if s.cnt ≥ s.perA then
          (if s.cfg.updateLatch = .cycleBoundary then
            { takeTurn s with cnt := 0, perA := s.period, cmpA := s.compare }
          else { takeTurn s with cnt := 0 })
        else { takeTurn s with cnt := s.cnt + 1 })
      else takeTurn s)

/-- R180: "Under `CYCLE_BOUNDARY`, `CNT <= PER_A` always holds", kept by every step of every agent. -/
def Obligations.CounterStaysWithinTop : Prop :=
  ∀ s t : State, CounterInv s → step s = .next t → CounterInv t

/-- R181: a PWM cycle that starts at `CNT = 0` runs through 0 to `PER_A` and is back at 0 after `PER_A + 1` ticks. -/
def Obligations.PwmCycleLastsPeriodPlusOneTicks : Prop :=
  ∀ s : State, s.cen = true → s.cnt = 0 →
    (∀ k, k ≤ s.perA → (tickTimes k s).cnt = k) ∧ (tickTimes (s.perA + 1) s).cnt = 0

/-- R182 (the spec's own decision D11): how many ticks of a cycle the output is active, for either compare edge and
for a compare value above the period too; a stopped counter's output is low. -/
def Obligations.PwmActiveTicksPerCycle : Prop :=
  (∀ s : State, s.cen = true → s.cnt = 0 →
    ((List.range (s.perA + 1)).filter fun k => pwmOut (tickTimes k s)).length =
      match s.cfg.compareEdge with
      | .lt => min s.cmpA (s.perA + 1)
      | .le => min (s.cmpA + 1) (s.perA + 1)) ∧
  (∀ s : State, s.cen = false → pwmOut s = false)

/-- R217, R218: under `CYCLE_BOUNDARY` no command disturbs a running cycle: the count, the active copies and the pin are
as before. -/
def Obligations.CommandsLeaveRunningCycle : Prop :=
  ∀ (i : Instr) (s t : State), s.cfg.updateLatch = .cycleBoundary → s.cen = true → exec i s = .next t →
    t.cen = true ∧ t.cnt = s.cnt ∧ t.perA = s.perA ∧ t.cmpA = s.cmpA ∧ pwmOut t = pwmOut s

/-- R24: "With `UPDATE_LATCH = IMMEDIATE` they equal `PERIOD` and `COMPARE` at every step". -/
def Obligations.ImmediateCopiesFollowRegisters : Prop :=
  ∀ s t : State, ImmediateInv s → step s = .next t → ImmediateInv t

/-- R125: the pins of the two latches, at levels no source fixes (D15, log 11). -/
def Obligations.LatchPins : Prop :=
  ∀ s : State,
    (stopOut s = if s.stop = true then s.cfg.stopAssertedLevel else !s.cfg.stopAssertedLevel) ∧
    (dirOut s = if s.dirl = false then s.cfg.dirForwardLevel else !s.cfg.dirForwardLevel)

/-! ## EXT, OBS and the host (60_exceptions.md R186 to R191, 70_reset_and_hazards.md R210) -/

/-- R186, R190 (the spec's own decisions D16, D17): EXT asserts the stop line in every state and mode, releases it
only if `EXT_DEASSERT` is true, and writes nothing else; OBS appends the register pair to `OBSLOG` while `IE = 1`, and
does nothing while `IE = 0`. -/
def Obligations.ExtWritesStopAndObsRecordsPair : Prop :=
  ∀ s : State, configValid s.cfg = true →
    (dueMove s = .extAssert → step s = .next { takeTurn s with stop := true }) ∧
    (dueMove s = .extDeassert →
      step s = .next (if s.cfg.extDeassert then { takeTurn s with stop := false } else takeTurn s)) ∧
    (dueMove s = .observe →
      step s = .next
        (if s.ie then { takeTurn s with obslog := s.obslog ++ [(s.period, s.compare)] } else takeTurn s))

/-- R20, R21, R22, R24, R28, R33: every register, and every pair in `OBSLOG`, holds values of its width, whatever
widths the configuration gives; kept by every step of every agent. -/
def Obligations.RegisterWidthsKept : Prop :=
  ∀ s t : State, WidthInv s → step s = .next t → WidthInv t

/-- R36, R210: the reset values. Those of RampState are the source's; the others are the spec's own decisions D6, D13,
D14, D17, D18, D20 and D28 (log 5). -/
def Obligations.ResetValues : Prop :=
  State.reset.period = 0 ∧ State.reset.compare = 0 ∧ State.reset.cen = false ∧ State.reset.cnt = 0 ∧
  State.reset.perA = 0 ∧ State.reset.cmpA = 0 ∧ State.reset.ie = false ∧ State.reset.stop = false ∧
  State.reset.dirl = false ∧ State.reset.freq = 500 ∧ State.reset.duty = 90 ∧ State.reset.dir = .forward ∧
  State.reset.run = .running ∧ State.reset.ph = .boot ∧ State.reset.resp = 0 ∧ State.reset.fault = 0 ∧
  State.reset.finfo = 0 ∧ State.reset.trace = [] ∧ State.reset.obslog = []

/-- R210, R211, R173: when the host asserts reset, every field of the block takes its reset value, a fault is cleared,
and a harness is put at its first word; the issuer, its list, the parameters and the schedule stay (log 10). -/
def Obligations.HostResetRestoresResetState : Prop :=
  ∀ s : State, configValid s.cfg = true → dueMove s = .hostReset →
    step s = .next
      { State.powerOn s.cfg with
        mode := s.mode, prog := s.prog, sched := (takeTurn s).sched, turn := (takeTurn s).turn }

/-- R57: in every step, OBS records the register pair, the counter takes up the register pair as the step leaves it,
and the register pair changes only at reset and by one whole command of the issuer, to what that command leaves. This
rests on atomic steps without torn writes (the spec's own decision D9, log 14). -/
def Obligations.UpdatesAreGlitchFree : Prop :=
  ∀ s t : State, step s = .next t →
    (t.obslog = s.obslog ∨ t.obslog = s.obslog ++ [(s.period, s.compare)] ∨
      (dueMove s = .hostReset ∧ t.obslog = [])) ∧
    ((t.perA = s.perA ∧ t.cmpA = s.cmpA) ∨ (t.perA = t.period ∧ t.cmpA = t.compare)) ∧
    ((t.period = s.period ∧ t.compare = s.compare) ∨
      (dueMove s = .hostReset ∧ t.period = 0 ∧ t.compare = 0) ∨
      (dueMove s = .issuer ∧
        ∃ (i : Instr) (v u : State), v.period = s.period ∧ v.compare = s.compare ∧ v.cfg = s.cfg ∧
          v.fault = s.fault ∧ exec i v = .next u ∧ u.fault = 0 ∧ t.period = u.period ∧ t.compare = u.compare))

/-! ## The Ramp Controller (45_ramp_controller.md) -/

/-- R136, R146, R211: `P_BOOT` puts RampState at the baseline, executes `INIT F_BASE, D_BASE` and goes to `P_REPORT` (the
order of boot is the spec's own decision D18); `P_CEIL_RESET` executes the same command on the running counter and puts
`FREQ` and `DUTY` at the baseline (no restart, the spec's own decision D12); it leaves the latches, `DIR`, `RUN` and the
histories. -/
def Obligations.BootAndCeilResetSteps : Prop :=
  (∀ (s : State) (p c : Nat), CtrlTurn s → s.ph = .boot →
      periodOf s.cfg (BitVec.ofNat 16 s.cfg.fBase) = .ok p → compareOf s.cfg p (BitVec.ofNat 8 s.cfg.dBase) = .ok c →
      ∃ t, exec (.init (BitVec.ofNat 16 s.cfg.fBase) (BitVec.ofNat 8 s.cfg.dBase)) (takeTurn s) = .next t ∧
        step s = .next
          { t with freq := s.cfg.fBase, duty := s.cfg.dBase, dir := .forward,
                   run := .running, ph := .report }) ∧
  (∀ (s : State) (p c : Nat), CtrlTurn s → s.ph = .ceilReset → s.cen = true →
      periodOf s.cfg (BitVec.ofNat 16 s.cfg.fBase) = .ok p → compareOf s.cfg p (BitVec.ofNat 8 s.cfg.dBase) = .ok c →
      step s = .next
        { takeTurn s with
          period := p, compare := c, ie := true
          perA := activeAfter s.cfg p s.perA, cmpA := activeAfter s.cfg c s.cmpA
          freq := s.cfg.fBase, duty := s.cfg.dBase, ph := .ceilDir })

/-- R137: `P_REPORT` emits the four lines in order, leaves `RESP` equal to the period, and goes to `P_SAMPLE`. -/
def Obligations.ReportStep : Prop :=
  ∀ s : State, CtrlTurn s → s.ph = .report →
    step s = .next
      { takeTurn s with
        resp := BitVec.ofNat 32 s.period
        trace := s.trace ++ [.lineCmp (BitVec.ofNat 32 s.compare), .linePer (BitVec.ofNat 32 s.period), .lineFreq s.freq,
          .lineDuty s.duty]
        ph := .sample }

/-- R138, R140: `P_SAMPLE` takes the stop path exactly if the stop latch is asserted, and records
what it read in `RUN` (the spec's own decision D14); `P_RESTART` deasserts the latch and records Running. Neither
touches `FREQ` or `DUTY`. -/
def Obligations.SampleAndRestartSteps : Prop :=
  ∀ s : State, CtrlTurn s →
    (s.ph = .sample →
      step s = .next
        (if s.stop then
          { takeTurn s with resp := 1, run := .stopped, trace := s.trace ++ [.stStopped], ph := .cooldown }
        else { takeTurn s with resp := 0, run := .running, trace := s.trace ++ [.stRotating], ph := .wait })) ∧
    (s.ph = .restart →
      step s = .next
        { takeTurn s with stop := false, run := .running, trace := s.trace ++ [.stStarted], ph := .wait })

/-- R139, R141, R148: each of the three waits is one step that appends its event, changes nothing else but the phase, and
takes no time (waits as events are the spec's own decision D19, R152, log 17). -/
def Obligations.WaitSteps : Prop :=
  ∀ s : State, CtrlTurn s →
    (s.ph = .cooldown → step s = .next { takeTurn s with trace := s.trace ++ [.wait .cooldown], ph := .restart }) ∧
    (s.ph = .wait → step s = .next { takeTurn s with trace := s.trace ++ [.wait .interval], ph := .decide }) ∧
    (s.ph = .settle → step s = .next { takeTurn s with trace := s.trace ++ [.wait .settle], ph := .report })

/-- R142: `P_DECIDE`. -/
def Obligations.DecideStep : Prop :=
  ∀ s : State, CtrlTurn s → s.ph = .decide →
    (s.cfg.fCeil ≤ s.freq → step s = .next { takeTurn s with ph := .ceilStop }) ∧
    (s.freq < s.cfg.fCeil → 2 ^ s.cfg.freqWidth ≤ s.freq + s.cfg.fStep →
      step s = .next { takeTurn s with fault := 6, finfo := BitVec.ofNat 32 s.freq, ph := .halted }) ∧
    (s.freq < s.cfg.fCeil → s.freq + s.cfg.fStep < 2 ^ s.cfg.freqWidth →
      ∃ f : FreqWord, f.toNat = s.freq + s.cfg.fStep ∧
        (∀ p, periodOf s.cfg f = .ok p →
          step s = .next
            { takeTurn s with
              period := p, perA := activeAfter s.cfg p s.perA, cmpA := activeAfter s.cfg s.compare s.cmpA
              freq := s.freq + s.cfg.fStep, ph := .repairCheck }) ∧
        (∀ r, periodOf s.cfg f = .error r →
          step s = .next { takeTurn s with fault := r.code, finfo := r.info, ph := .halted }))

/-- R143: `P_REPAIR_CHECK` goes to `P_REPAIR_STEP` exactly if `COMPARE > PERIOD` (in every state whose registers hold
values of their widths, RegisterWidthsKept). -/
def Obligations.RepairCheckStep : Prop :=
  ∀ s : State, CtrlTurn s → WidthInv s → s.ph = .repairCheck →
    step s = .next
      { takeTurn s with
        resp := BitVec.ofNat 32 s.period
        ph := if s.compare > s.period then .repairStep else .report }

/-- R144: `P_REPAIR_STEP`, where the product of the new duty fits (as it does with 16-bit registers and 32-bit
arithmetic) and the registers hold values of their widths (RegisterWidthsKept): `DUTY_UNDERFLOW`, `DUTY_RANGE`, or the
lower duty installed. -/
def Obligations.RepairStepLowersDuty : Prop :=
  ∀ s : State, CtrlTurn s → WidthInv s → s.ph = .repairStep → s.period * 100 < 2 ^ s.cfg.arithWidth →
    (s.duty < s.cfg.dStep →
      step s = .next { takeTurn s with fault := 7, finfo := BitVec.ofNat 32 s.duty, ph := .halted }) ∧
    (s.cfg.dStep ≤ s.duty → 100 < s.duty - s.cfg.dStep →
      step s = .next
        { takeTurn s with fault := 4, finfo := BitVec.ofNat 32 (s.duty - s.cfg.dStep), ph := .halted }) ∧
    (s.cfg.dStep ≤ s.duty → s.duty - s.cfg.dStep ≤ 100 →
      ∃ c : Nat, c = s.period * (s.duty - s.cfg.dStep) / 100 ∧
        step s = .next
          { takeTurn s with
            compare := c, perA := activeAfter s.cfg s.period s.perA, cmpA := activeAfter s.cfg c s.cmpA
            duty := s.duty - s.cfg.dStep, ph := .repairCheck })

/-- R145, R147: `P_CEIL_STOP` inverts the stop latch and records what it then is (an inversion as written, the spec's
own decision D14); `P_CEIL_DIR` inverts the direction latch and records and reports the flipped direction. -/
def Obligations.CeilingLatchSteps : Prop :=
  ∀ s : State, CtrlTurn s →
    (s.ph = .ceilStop →
      step s = .next
        { takeTurn s with
          stop := !s.stop, run := if s.stop then .running else .stopped, trace := s.trace ++ [.revStopped]
          ph := .ceilReset }) ∧
    (s.ph = .ceilDir →
      step s = .next
        { takeTurn s with
          dirl := !s.dirl, dir := if s.dir = .forward then .reverse else .forward
          trace := s.trace ++ [.revDir (if s.dir = .forward then .reverse else .forward)], ph := .settle })

/-- R135, R149: CTRL takes no step in `P_HALTED` or while `FAULT != 0`: its turn changes nothing but the schedule. -/
def Obligations.HaltedControllerTakesNoStep : Prop :=
  ∀ s : State, configValid s.cfg = true → dueMove s = .issuer → s.mode = .controller →
    (s.ph = .halted ∨ s.fault ≠ 0) → step s = .next (takeTurn s)

/-- R150: the transitions of the controller, from every state whose registers hold values of their widths
(RegisterWidthsKept). -/
def Obligations.PhaseTransitions : Prop :=
  ∀ s t : State, CtrlTurn s → WidthInv s → s.ph ≠ .halted → step s = .next t →
    (t.fault ≠ 0 ∧ t.ph = .halted) ∨
    (t.fault = 0 ∧
      match s.ph with
      | .boot        => t.ph = .report
      | .report      => t.ph = .sample
      | .sample      => t.ph = if s.stop then .cooldown else .wait
      | .cooldown    => t.ph = .restart
      | .restart     => t.ph = .wait
      | .wait        => t.ph = .decide
      | .decide      => t.ph = if s.freq < s.cfg.fCeil then .repairCheck else .ceilStop
      | .repairCheck => t.ph = if s.compare > s.period then .repairStep else .report
      | .repairStep  => t.ph = .repairCheck
      | .ceilStop    => t.ph = .ceilReset
      | .ceilReset   => t.ph = .ceilDir
      | .ceilDir     => t.ph = .settle
      | .settle      => t.ph = .report
      | .halted      => False)

/-- R151: outside reset, `FREQ`, `DUTY`, `DIR` and `RUN` are written only by CTRL, each only in the phases listed. -/
def Obligations.RampStateWriters : Prop :=
  ∀ s t : State, step s = .next t → dueMove s ≠ .hostReset →
    (t.freq ≠ s.freq → dueMove s = .issuer ∧ s.mode = .controller ∧
      (s.ph = .boot ∨ s.ph = .decide ∨ s.ph = .ceilReset)) ∧
    (t.duty ≠ s.duty → dueMove s = .issuer ∧ s.mode = .controller ∧
      (s.ph = .boot ∨ s.ph = .repairStep ∨ s.ph = .ceilReset)) ∧
    (t.dir ≠ s.dir → dueMove s = .issuer ∧ s.mode = .controller ∧ (s.ph = .boot ∨ s.ph = .ceilDir)) ∧
    (t.run ≠ s.run → dueMove s = .issuer ∧ s.mode = .controller ∧
      (s.ph = .boot ∨ s.ph = .sample ∨ s.ph = .restart ∨ s.ph = .ceilStop))

/-- R162: the report invariant, kept by every step of every agent under every schedule and every configuration, in
states whose registers hold values of their widths (RegisterWidthsKept). -/
def Obligations.ReportInvariantKept : Prop :=
  ∀ s t : State, WidthInv s → ReportInv s → step s = .next t → ReportInv t

/-- R28: `DIR = Reverse` iff `DIRL = 1`, kept by every step in controller mode. -/
def Obligations.DirectionReflectionKept : Prop :=
  ∀ s t : State, DirectionInv s → step s = .next t → DirectionInv t

/-- R156: `DUTY <= 100`, kept by every step. -/
def Obligations.DutyWithinPercentKept : Prop :=
  ∀ s t : State, DutyInv s → step s = .next t → DutyInv t

/-- R170, R171, R31, R135: `FAULT` holds only the codes of R170, `FINFO` is 0 without a fault, and CTRL is halted
exactly when a fault has been taken; kept by every step. -/
def Obligations.FaultRecordKept : Prop :=
  ∀ s t : State, FaultInv s → step s = .next t → FaultInv t

/-- R210: the invariants hold after reset, under every configuration that the machine has a meaning for (so under both
update latches), for either issuer, whatever list a harness is given and whatever is scheduled. -/
def Obligations.InvariantsHoldAtReset : Prop :=
  ∀ (c : Config) (m : Mode) (words : List Word) (sched : List Move) (s : State), configValid c = true →
    s = { State.powerOn c with mode := m, prog := words, sched := sched } →
    WidthInv s ∧ ReportInv s ∧ CounterInv s ∧ ImmediateInv s ∧ DirectionInv s ∧ DutyInv s ∧ FaultInv s

/-- R156: whatever the other agents do between them, the repair step is followed by a check that leaves the loop: one
repair restores `COMPARE <= PERIOD`. -/
def Obligations.OneRepairSuffices : Prop :=
  ∀ (s : State) (others : List Move), configValid s.cfg = true → s.mode = .controller → s.fault = 0 →
    s.ph = .repairStep → WidthInv s → s.period * 100 < 2 ^ s.cfg.arithWidth → s.cfg.dStep ≤ s.duty → DutyInv s →
    .issuer ∉ others → .hostReset ∉ others →
    ∃ t, runSteps (others.length + 2) { s with sched := .issuer :: others ++ [.issuer] } = .next t ∧
      t.ph = .report ∧ t.fault = 0 ∧ t.compare ≤ t.period ∧ t.period = s.period

/-- R161: with CTRL alone stepping, an iteration from any `P_REPORT` state takes between 5 and 10 CTRL steps: five, two
more on the stop path, two more for a repair, three more at the ceiling; and it ends at the next `P_REPORT` with
`COMPARE <= PERIOD`. Nothing is said of runs in which another agent steps in between. -/
def Obligations.IterationTakesFiveToTenSteps : Prop :=
  ∀ s : State, configValid s.cfg = true → HwArith s.cfg → HwRamp s.cfg → s.mode = .controller → s.fault = 0 →
    WidthInv s → s.ph = .report → 2 ≤ s.duty → s.duty ≤ 100 →
    5 ≤ iterationSteps s ∧ iterationSteps s ≤ 10 ∧
    (∃ t, runSteps (iterationSteps s) { s with sched := List.replicate (iterationSteps s) .issuer } = .next t ∧
      t.ph = .report ∧ t.fault = 0 ∧ t.compare ≤ t.period) ∧
    (∀ k t, 0 < k → k < iterationSteps s →
      runSteps k { s with sched := List.replicate (iterationSteps s) .issuer } = .next t → t.ph ≠ .report)

/-- R155, R158, R159: at the ceiling, five CTRL steps from `P_DECIDE` put the block back at the baseline, flip the
direction and invert the stop latch, and report the reversal. -/
def Obligations.CeilingResetsAndReverses : Prop :=
  ∀ s : State, configValid s.cfg = true → HwArith s.cfg → HwRamp s.cfg → s.mode = .controller → s.fault = 0 →
    s.ph = .decide → s.cen = true → 3000 ≤ s.freq →
    ∃ t, runSteps 5 { s with sched := List.replicate 5 .issuer } = .next t ∧
      t.ph = .report ∧ t.freq = 500 ∧ t.duty = 90 ∧ t.period = 3999 ∧ t.compare = 3599 ∧
      t.stop = !s.stop ∧ (t.run = if s.stop then .running else .stopped) ∧ t.dirl = !s.dirl ∧
      t.dir = (if s.dir = .forward then .reverse else .forward) ∧
      t.trace = s.trace ++ [.revStopped, .revDir t.dir, .wait .settle] ∧ t.fault = 0

/-- R160: from an asserted stop latch at `P_SAMPLE`, CTRL's next four steps report "stopped" and "started", deassert
the latch and wait, and change neither `FREQ` nor `DUTY` nor the registers. -/
def Obligations.StopPathIsTransient : Prop :=
  ∀ s : State, configValid s.cfg = true → s.mode = .controller → s.fault = 0 → s.ph = .sample → s.stop = true →
    runSteps 4 { s with sched := List.replicate 4 .issuer } = .next
      { s with
        sched := [], resp := 1, stop := false, run := .running
        trace := s.trace ++ [.stStopped, .wait .cooldown, .stStarted, .wait .interval], ph := .decide }

/-- R154: the diagnostic stream is never read: whatever it holds, a step does the same to everything else and appends
the same events (or, at reset, empties it). -/
def Obligations.TraceIsNeverRead : Prop :=
  ∀ s t : State, step s = .next t →
    (dueMove s = .hostReset ∧ t.trace = [] ∧ ∀ l, step { s with trace := l } = .next t) ∨
    (∃ es, t.trace = s.trace ++ es ∧ ∀ l, step { s with trace := l } = .next { t with trace := l ++ es })

/-- R171, R173: a taken fault is sticky: no later step but a reset changes the registers, `IE`, `RESP` or RampState; and
the counter, EXT and OBS go on as before it. -/
def Obligations.FaultIsStickyUntilReset : Prop :=
  (∀ s t : State, s.fault ≠ 0 → step s = .next t → dueMove s ≠ .hostReset →
    t.fault = s.fault ∧ t.finfo = s.finfo ∧ t.period = s.period ∧ t.compare = s.compare ∧ t.ie = s.ie ∧
    t.cen = s.cen ∧ t.resp = s.resp ∧ t.ph = s.ph ∧ t.freq = s.freq ∧ t.duty = s.duty ∧ t.dir = s.dir ∧
    t.run = s.run ∧ t.dirl = s.dirl ∧ t.trace = s.trace ∧ t.hidx = s.hidx) ∧
  (∀ s : State, s.fault ≠ 0 → configValid s.cfg = true →
    (dueMove s = .tick → s.cen = true → s.cnt < s.perA →
      step s = .next { takeTurn s with cnt := s.cnt + 1 }) ∧
    (dueMove s = .tick → s.cen = true → s.perA ≤ s.cnt → s.cfg.updateLatch = .cycleBoundary →
      step s = .next { takeTurn s with cnt := 0, perA := s.period, cmpA := s.compare }) ∧
    (dueMove s = .tick → s.cen = true → s.perA ≤ s.cnt → s.cfg.updateLatch = .immediate →
      step s = .next { takeTurn s with cnt := 0 }) ∧
    (dueMove s = .extAssert → step s = .next { takeTurn s with stop := true }) ∧
    (dueMove s = .extDeassert → s.cfg.extDeassert = true → step s = .next { takeTurn s with stop := false }) ∧
    (dueMove s = .observe → s.ie = true →
      step s = .next { takeTurn s with obslog := s.obslog ++ [(s.period, s.compare)] }))

/-- R6, R84, R62: no step changes the parameters, the mode of the run or the harness's list. -/
def Obligations.ParametersModeAndListNeverChange : Prop :=
  ∀ s t : State, step s = .next t → t.cfg = s.cfg ∧ t.mode = s.mode ∧ t.prog = s.prog

/-- R84: while a harness drives the interface, CTRL's phase, RampState and the diagnostic stream keep their values,
except at reset and except that nothing else writes them. -/
def Obligations.HarnessLeavesControllerState : Prop :=
  ∀ s t : State, s.mode = .harness → step s = .next t → dueMove s ≠ .hostReset →
    t.ph = s.ph ∧ t.freq = s.freq ∧ t.duty = s.duty ∧ t.dir = s.dir ∧ t.run = s.run ∧ t.trace = s.trace
end

