-- ==== Sys2Proof/Laws/State.lean ====
section
/-! SUPPORT. One lemma per field per named update of State: what the update leaves in that field. -/

namespace Sys2Proof.Machine

variable (s : State)

/-! ### `State.respond` -/

@[simp] theorem respond_period (v : Word) : (s.respond v).period = s.period := rfl
@[simp] theorem respond_compare (v : Word) : (s.respond v).compare = s.compare := rfl
@[simp] theorem respond_cen (v : Word) : (s.respond v).cen = s.cen := rfl
@[simp] theorem respond_cnt (v : Word) : (s.respond v).cnt = s.cnt := rfl
@[simp] theorem respond_perA (v : Word) : (s.respond v).perA = s.perA := rfl
@[simp] theorem respond_cmpA (v : Word) : (s.respond v).cmpA = s.cmpA := rfl
@[simp] theorem respond_ie (v : Word) : (s.respond v).ie = s.ie := rfl
@[simp] theorem respond_stop (v : Word) : (s.respond v).stop = s.stop := rfl
@[simp] theorem respond_dirl (v : Word) : (s.respond v).dirl = s.dirl := rfl
@[simp] theorem respond_freq (v : Word) : (s.respond v).freq = s.freq := rfl
@[simp] theorem respond_duty (v : Word) : (s.respond v).duty = s.duty := rfl
@[simp] theorem respond_dir (v : Word) : (s.respond v).dir = s.dir := rfl
@[simp] theorem respond_run (v : Word) : (s.respond v).run = s.run := rfl
@[simp] theorem respond_ph (v : Word) : (s.respond v).ph = s.ph := rfl
@[simp] theorem respond_resp (v : Word) : (s.respond v).resp = v := rfl
@[simp] theorem respond_fault (v : Word) : (s.respond v).fault = s.fault := rfl
@[simp] theorem respond_finfo (v : Word) : (s.respond v).finfo = s.finfo := rfl
@[simp] theorem respond_trace (v : Word) : (s.respond v).trace = s.trace := rfl
@[simp] theorem respond_obslog (v : Word) : (s.respond v).obslog = s.obslog := rfl
@[simp] theorem respond_mode (v : Word) : (s.respond v).mode = s.mode := rfl
@[simp] theorem respond_prog (v : Word) : (s.respond v).prog = s.prog := rfl
@[simp] theorem respond_hidx (v : Word) : (s.respond v).hidx = s.hidx := rfl
@[simp] theorem respond_cfg (v : Word) : (s.respond v).cfg = s.cfg := rfl
@[simp] theorem respond_sched (v : Word) : (s.respond v).sched = s.sched := rfl
@[simp] theorem respond_turn (v : Word) : (s.respond v).turn = s.turn := rfl

/-! ### `State.setPeriod` -/

@[simp] theorem setPeriod_period (p : Nat) : (s.setPeriod p).period = p := rfl
@[simp] theorem setPeriod_compare (p : Nat) : (s.setPeriod p).compare = s.compare := rfl
@[simp] theorem setPeriod_cen (p : Nat) : (s.setPeriod p).cen = s.cen := rfl
@[simp] theorem setPeriod_cnt (p : Nat) : (s.setPeriod p).cnt = s.cnt := rfl
@[simp] theorem setPeriod_perA (p : Nat) : (s.setPeriod p).perA = s.perA := rfl
@[simp] theorem setPeriod_cmpA (p : Nat) : (s.setPeriod p).cmpA = s.cmpA := rfl
@[simp] theorem setPeriod_ie (p : Nat) : (s.setPeriod p).ie = s.ie := rfl
@[simp] theorem setPeriod_stop (p : Nat) : (s.setPeriod p).stop = s.stop := rfl
@[simp] theorem setPeriod_dirl (p : Nat) : (s.setPeriod p).dirl = s.dirl := rfl
@[simp] theorem setPeriod_freq (p : Nat) : (s.setPeriod p).freq = s.freq := rfl
@[simp] theorem setPeriod_duty (p : Nat) : (s.setPeriod p).duty = s.duty := rfl
@[simp] theorem setPeriod_dir (p : Nat) : (s.setPeriod p).dir = s.dir := rfl
@[simp] theorem setPeriod_run (p : Nat) : (s.setPeriod p).run = s.run := rfl
@[simp] theorem setPeriod_ph (p : Nat) : (s.setPeriod p).ph = s.ph := rfl
@[simp] theorem setPeriod_resp (p : Nat) : (s.setPeriod p).resp = s.resp := rfl
@[simp] theorem setPeriod_fault (p : Nat) : (s.setPeriod p).fault = s.fault := rfl
@[simp] theorem setPeriod_finfo (p : Nat) : (s.setPeriod p).finfo = s.finfo := rfl
@[simp] theorem setPeriod_trace (p : Nat) : (s.setPeriod p).trace = s.trace := rfl
@[simp] theorem setPeriod_obslog (p : Nat) : (s.setPeriod p).obslog = s.obslog := rfl
@[simp] theorem setPeriod_mode (p : Nat) : (s.setPeriod p).mode = s.mode := rfl
@[simp] theorem setPeriod_prog (p : Nat) : (s.setPeriod p).prog = s.prog := rfl
@[simp] theorem setPeriod_hidx (p : Nat) : (s.setPeriod p).hidx = s.hidx := rfl
@[simp] theorem setPeriod_cfg (p : Nat) : (s.setPeriod p).cfg = s.cfg := rfl
@[simp] theorem setPeriod_sched (p : Nat) : (s.setPeriod p).sched = s.sched := rfl
@[simp] theorem setPeriod_turn (p : Nat) : (s.setPeriod p).turn = s.turn := rfl

/-! ### `State.setCompare` -/

@[simp] theorem setCompare_period (c : Nat) : (s.setCompare c).period = s.period := rfl
@[simp] theorem setCompare_compare (c : Nat) : (s.setCompare c).compare = c := rfl
@[simp] theorem setCompare_cen (c : Nat) : (s.setCompare c).cen = s.cen := rfl
@[simp] theorem setCompare_cnt (c : Nat) : (s.setCompare c).cnt = s.cnt := rfl
@[simp] theorem setCompare_perA (c : Nat) : (s.setCompare c).perA = s.perA := rfl
@[simp] theorem setCompare_cmpA (c : Nat) : (s.setCompare c).cmpA = s.cmpA := rfl
@[simp] theorem setCompare_ie (c : Nat) : (s.setCompare c).ie = s.ie := rfl
@[simp] theorem setCompare_stop (c : Nat) : (s.setCompare c).stop = s.stop := rfl
@[simp] theorem setCompare_dirl (c : Nat) : (s.setCompare c).dirl = s.dirl := rfl
@[simp] theorem setCompare_freq (c : Nat) : (s.setCompare c).freq = s.freq := rfl
@[simp] theorem setCompare_duty (c : Nat) : (s.setCompare c).duty = s.duty := rfl
@[simp] theorem setCompare_dir (c : Nat) : (s.setCompare c).dir = s.dir := rfl
@[simp] theorem setCompare_run (c : Nat) : (s.setCompare c).run = s.run := rfl
@[simp] theorem setCompare_ph (c : Nat) : (s.setCompare c).ph = s.ph := rfl
@[simp] theorem setCompare_resp (c : Nat) : (s.setCompare c).resp = s.resp := rfl
@[simp] theorem setCompare_fault (c : Nat) : (s.setCompare c).fault = s.fault := rfl
@[simp] theorem setCompare_finfo (c : Nat) : (s.setCompare c).finfo = s.finfo := rfl
@[simp] theorem setCompare_trace (c : Nat) : (s.setCompare c).trace = s.trace := rfl
@[simp] theorem setCompare_obslog (c : Nat) : (s.setCompare c).obslog = s.obslog := rfl
@[simp] theorem setCompare_mode (c : Nat) : (s.setCompare c).mode = s.mode := rfl
@[simp] theorem setCompare_prog (c : Nat) : (s.setCompare c).prog = s.prog := rfl
@[simp] theorem setCompare_hidx (c : Nat) : (s.setCompare c).hidx = s.hidx := rfl
@[simp] theorem setCompare_cfg (c : Nat) : (s.setCompare c).cfg = s.cfg := rfl
@[simp] theorem setCompare_sched (c : Nat) : (s.setCompare c).sched = s.sched := rfl
@[simp] theorem setCompare_turn (c : Nat) : (s.setCompare c).turn = s.turn := rfl

/-! ### `State.setIe` -/

@[simp] theorem setIe_period (b : Bool) : (s.setIe b).period = s.period := rfl
@[simp] theorem setIe_compare (b : Bool) : (s.setIe b).compare = s.compare := rfl
@[simp] theorem setIe_cen (b : Bool) : (s.setIe b).cen = s.cen := rfl
@[simp] theorem setIe_cnt (b : Bool) : (s.setIe b).cnt = s.cnt := rfl
@[simp] theorem setIe_perA (b : Bool) : (s.setIe b).perA = s.perA := rfl
@[simp] theorem setIe_cmpA (b : Bool) : (s.setIe b).cmpA = s.cmpA := rfl
@[simp] theorem setIe_ie (b : Bool) : (s.setIe b).ie = b := rfl
@[simp] theorem setIe_stop (b : Bool) : (s.setIe b).stop = s.stop := rfl
@[simp] theorem setIe_dirl (b : Bool) : (s.setIe b).dirl = s.dirl := rfl
@[simp] theorem setIe_freq (b : Bool) : (s.setIe b).freq = s.freq := rfl
@[simp] theorem setIe_duty (b : Bool) : (s.setIe b).duty = s.duty := rfl
@[simp] theorem setIe_dir (b : Bool) : (s.setIe b).dir = s.dir := rfl
@[simp] theorem setIe_run (b : Bool) : (s.setIe b).run = s.run := rfl
@[simp] theorem setIe_ph (b : Bool) : (s.setIe b).ph = s.ph := rfl
@[simp] theorem setIe_resp (b : Bool) : (s.setIe b).resp = s.resp := rfl
@[simp] theorem setIe_fault (b : Bool) : (s.setIe b).fault = s.fault := rfl
@[simp] theorem setIe_finfo (b : Bool) : (s.setIe b).finfo = s.finfo := rfl
@[simp] theorem setIe_trace (b : Bool) : (s.setIe b).trace = s.trace := rfl
@[simp] theorem setIe_obslog (b : Bool) : (s.setIe b).obslog = s.obslog := rfl
@[simp] theorem setIe_mode (b : Bool) : (s.setIe b).mode = s.mode := rfl
@[simp] theorem setIe_prog (b : Bool) : (s.setIe b).prog = s.prog := rfl
@[simp] theorem setIe_hidx (b : Bool) : (s.setIe b).hidx = s.hidx := rfl
@[simp] theorem setIe_cfg (b : Bool) : (s.setIe b).cfg = s.cfg := rfl
@[simp] theorem setIe_sched (b : Bool) : (s.setIe b).sched = s.sched := rfl
@[simp] theorem setIe_turn (b : Bool) : (s.setIe b).turn = s.turn := rfl

/-! ### `State.setCnt` -/

@[simp] theorem setCnt_period (n : Nat) : (s.setCnt n).period = s.period := rfl
@[simp] theorem setCnt_compare (n : Nat) : (s.setCnt n).compare = s.compare := rfl
@[simp] theorem setCnt_cen (n : Nat) : (s.setCnt n).cen = s.cen := rfl
@[simp] theorem setCnt_cnt (n : Nat) : (s.setCnt n).cnt = n := rfl
@[simp] theorem setCnt_perA (n : Nat) : (s.setCnt n).perA = s.perA := rfl
@[simp] theorem setCnt_cmpA (n : Nat) : (s.setCnt n).cmpA = s.cmpA := rfl
@[simp] theorem setCnt_ie (n : Nat) : (s.setCnt n).ie = s.ie := rfl
@[simp] theorem setCnt_stop (n : Nat) : (s.setCnt n).stop = s.stop := rfl
@[simp] theorem setCnt_dirl (n : Nat) : (s.setCnt n).dirl = s.dirl := rfl
@[simp] theorem setCnt_freq (n : Nat) : (s.setCnt n).freq = s.freq := rfl
@[simp] theorem setCnt_duty (n : Nat) : (s.setCnt n).duty = s.duty := rfl
@[simp] theorem setCnt_dir (n : Nat) : (s.setCnt n).dir = s.dir := rfl
@[simp] theorem setCnt_run (n : Nat) : (s.setCnt n).run = s.run := rfl
@[simp] theorem setCnt_ph (n : Nat) : (s.setCnt n).ph = s.ph := rfl
@[simp] theorem setCnt_resp (n : Nat) : (s.setCnt n).resp = s.resp := rfl
@[simp] theorem setCnt_fault (n : Nat) : (s.setCnt n).fault = s.fault := rfl
@[simp] theorem setCnt_finfo (n : Nat) : (s.setCnt n).finfo = s.finfo := rfl
@[simp] theorem setCnt_trace (n : Nat) : (s.setCnt n).trace = s.trace := rfl
@[simp] theorem setCnt_obslog (n : Nat) : (s.setCnt n).obslog = s.obslog := rfl
@[simp] theorem setCnt_mode (n : Nat) : (s.setCnt n).mode = s.mode := rfl
@[simp] theorem setCnt_prog (n : Nat) : (s.setCnt n).prog = s.prog := rfl
@[simp] theorem setCnt_hidx (n : Nat) : (s.setCnt n).hidx = s.hidx := rfl
@[simp] theorem setCnt_cfg (n : Nat) : (s.setCnt n).cfg = s.cfg := rfl
@[simp] theorem setCnt_sched (n : Nat) : (s.setCnt n).sched = s.sched := rfl
@[simp] theorem setCnt_turn (n : Nat) : (s.setCnt n).turn = s.turn := rfl

/-! ### `State.loadActive` -/

@[simp] theorem loadActive_period (p c : Nat) : (s.loadActive p c).period = s.period := rfl
@[simp] theorem loadActive_compare (p c : Nat) : (s.loadActive p c).compare = s.compare := rfl
@[simp] theorem loadActive_cen (p c : Nat) : (s.loadActive p c).cen = s.cen := rfl
@[simp] theorem loadActive_cnt (p c : Nat) : (s.loadActive p c).cnt = s.cnt := rfl
@[simp] theorem loadActive_perA (p c : Nat) : (s.loadActive p c).perA = p := rfl
@[simp] theorem loadActive_cmpA (p c : Nat) : (s.loadActive p c).cmpA = c := rfl
@[simp] theorem loadActive_ie (p c : Nat) : (s.loadActive p c).ie = s.ie := rfl
@[simp] theorem loadActive_stop (p c : Nat) : (s.loadActive p c).stop = s.stop := rfl
@[simp] theorem loadActive_dirl (p c : Nat) : (s.loadActive p c).dirl = s.dirl := rfl
@[simp] theorem loadActive_freq (p c : Nat) : (s.loadActive p c).freq = s.freq := rfl
@[simp] theorem loadActive_duty (p c : Nat) : (s.loadActive p c).duty = s.duty := rfl
@[simp] theorem loadActive_dir (p c : Nat) : (s.loadActive p c).dir = s.dir := rfl
@[simp] theorem loadActive_run (p c : Nat) : (s.loadActive p c).run = s.run := rfl
@[simp] theorem loadActive_ph (p c : Nat) : (s.loadActive p c).ph = s.ph := rfl
@[simp] theorem loadActive_resp (p c : Nat) : (s.loadActive p c).resp = s.resp := rfl
@[simp] theorem loadActive_fault (p c : Nat) : (s.loadActive p c).fault = s.fault := rfl
@[simp] theorem loadActive_finfo (p c : Nat) : (s.loadActive p c).finfo = s.finfo := rfl
@[simp] theorem loadActive_trace (p c : Nat) : (s.loadActive p c).trace = s.trace := rfl
@[simp] theorem loadActive_obslog (p c : Nat) : (s.loadActive p c).obslog = s.obslog := rfl
@[simp] theorem loadActive_mode (p c : Nat) : (s.loadActive p c).mode = s.mode := rfl
@[simp] theorem loadActive_prog (p c : Nat) : (s.loadActive p c).prog = s.prog := rfl
@[simp] theorem loadActive_hidx (p c : Nat) : (s.loadActive p c).hidx = s.hidx := rfl
@[simp] theorem loadActive_cfg (p c : Nat) : (s.loadActive p c).cfg = s.cfg := rfl
@[simp] theorem loadActive_sched (p c : Nat) : (s.loadActive p c).sched = s.sched := rfl
@[simp] theorem loadActive_turn (p c : Nat) : (s.loadActive p c).turn = s.turn := rfl

/-! ### `State.startCounter` -/

@[simp] theorem startCounter_period (p c : Nat) : (s.startCounter p c).period = s.period := rfl
@[simp] theorem startCounter_compare (p c : Nat) : (s.startCounter p c).compare = s.compare := rfl
@[simp] theorem startCounter_cen (p c : Nat) : (s.startCounter p c).cen = true := rfl
@[simp] theorem startCounter_cnt (p c : Nat) : (s.startCounter p c).cnt = 0 := rfl
@[simp] theorem startCounter_perA (p c : Nat) : (s.startCounter p c).perA = p := rfl
@[simp] theorem startCounter_cmpA (p c : Nat) : (s.startCounter p c).cmpA = c := rfl
@[simp] theorem startCounter_ie (p c : Nat) : (s.startCounter p c).ie = s.ie := rfl
@[simp] theorem startCounter_stop (p c : Nat) : (s.startCounter p c).stop = s.stop := rfl
@[simp] theorem startCounter_dirl (p c : Nat) : (s.startCounter p c).dirl = s.dirl := rfl
@[simp] theorem startCounter_freq (p c : Nat) : (s.startCounter p c).freq = s.freq := rfl
@[simp] theorem startCounter_duty (p c : Nat) : (s.startCounter p c).duty = s.duty := rfl
@[simp] theorem startCounter_dir (p c : Nat) : (s.startCounter p c).dir = s.dir := rfl
@[simp] theorem startCounter_run (p c : Nat) : (s.startCounter p c).run = s.run := rfl
@[simp] theorem startCounter_ph (p c : Nat) : (s.startCounter p c).ph = s.ph := rfl
@[simp] theorem startCounter_resp (p c : Nat) : (s.startCounter p c).resp = s.resp := rfl
@[simp] theorem startCounter_fault (p c : Nat) : (s.startCounter p c).fault = s.fault := rfl
@[simp] theorem startCounter_finfo (p c : Nat) : (s.startCounter p c).finfo = s.finfo := rfl
@[simp] theorem startCounter_trace (p c : Nat) : (s.startCounter p c).trace = s.trace := rfl
@[simp] theorem startCounter_obslog (p c : Nat) : (s.startCounter p c).obslog = s.obslog := rfl
@[simp] theorem startCounter_mode (p c : Nat) : (s.startCounter p c).mode = s.mode := rfl
@[simp] theorem startCounter_prog (p c : Nat) : (s.startCounter p c).prog = s.prog := rfl
@[simp] theorem startCounter_hidx (p c : Nat) : (s.startCounter p c).hidx = s.hidx := rfl
@[simp] theorem startCounter_cfg (p c : Nat) : (s.startCounter p c).cfg = s.cfg := rfl
@[simp] theorem startCounter_sched (p c : Nat) : (s.startCounter p c).sched = s.sched := rfl
@[simp] theorem startCounter_turn (p c : Nat) : (s.startCounter p c).turn = s.turn := rfl

/-! ### `State.setStop` -/

@[simp] theorem setStop_period (b : Bool) : (s.setStop b).period = s.period := rfl
@[simp] theorem setStop_compare (b : Bool) : (s.setStop b).compare = s.compare := rfl
@[simp] theorem setStop_cen (b : Bool) : (s.setStop b).cen = s.cen := rfl
@[simp] theorem setStop_cnt (b : Bool) : (s.setStop b).cnt = s.cnt := rfl
@[simp] theorem setStop_perA (b : Bool) : (s.setStop b).perA = s.perA := rfl
@[simp] theorem setStop_cmpA (b : Bool) : (s.setStop b).cmpA = s.cmpA := rfl
@[simp] theorem setStop_ie (b : Bool) : (s.setStop b).ie = s.ie := rfl
@[simp] theorem setStop_stop (b : Bool) : (s.setStop b).stop = b := rfl
@[simp] theorem setStop_dirl (b : Bool) : (s.setStop b).dirl = s.dirl := rfl
@[simp] theorem setStop_freq (b : Bool) : (s.setStop b).freq = s.freq := rfl
@[simp] theorem setStop_duty (b : Bool) : (s.setStop b).duty = s.duty := rfl
@[simp] theorem setStop_dir (b : Bool) : (s.setStop b).dir = s.dir := rfl
@[simp] theorem setStop_run (b : Bool) : (s.setStop b).run = s.run := rfl
@[simp] theorem setStop_ph (b : Bool) : (s.setStop b).ph = s.ph := rfl
@[simp] theorem setStop_resp (b : Bool) : (s.setStop b).resp = s.resp := rfl
@[simp] theorem setStop_fault (b : Bool) : (s.setStop b).fault = s.fault := rfl
@[simp] theorem setStop_finfo (b : Bool) : (s.setStop b).finfo = s.finfo := rfl
@[simp] theorem setStop_trace (b : Bool) : (s.setStop b).trace = s.trace := rfl
@[simp] theorem setStop_obslog (b : Bool) : (s.setStop b).obslog = s.obslog := rfl
@[simp] theorem setStop_mode (b : Bool) : (s.setStop b).mode = s.mode := rfl
@[simp] theorem setStop_prog (b : Bool) : (s.setStop b).prog = s.prog := rfl
@[simp] theorem setStop_hidx (b : Bool) : (s.setStop b).hidx = s.hidx := rfl
@[simp] theorem setStop_cfg (b : Bool) : (s.setStop b).cfg = s.cfg := rfl
@[simp] theorem setStop_sched (b : Bool) : (s.setStop b).sched = s.sched := rfl
@[simp] theorem setStop_turn (b : Bool) : (s.setStop b).turn = s.turn := rfl

/-! ### `State.setDirl` -/

@[simp] theorem setDirl_period (b : Bool) : (s.setDirl b).period = s.period := rfl
@[simp] theorem setDirl_compare (b : Bool) : (s.setDirl b).compare = s.compare := rfl
@[simp] theorem setDirl_cen (b : Bool) : (s.setDirl b).cen = s.cen := rfl
@[simp] theorem setDirl_cnt (b : Bool) : (s.setDirl b).cnt = s.cnt := rfl
@[simp] theorem setDirl_perA (b : Bool) : (s.setDirl b).perA = s.perA := rfl
@[simp] theorem setDirl_cmpA (b : Bool) : (s.setDirl b).cmpA = s.cmpA := rfl
@[simp] theorem setDirl_ie (b : Bool) : (s.setDirl b).ie = s.ie := rfl
@[simp] theorem setDirl_stop (b : Bool) : (s.setDirl b).stop = s.stop := rfl
@[simp] theorem setDirl_dirl (b : Bool) : (s.setDirl b).dirl = b := rfl
@[simp] theorem setDirl_freq (b : Bool) : (s.setDirl b).freq = s.freq := rfl
@[simp] theorem setDirl_duty (b : Bool) : (s.setDirl b).duty = s.duty := rfl
@[simp] theorem setDirl_dir (b : Bool) : (s.setDirl b).dir = s.dir := rfl
@[simp] theorem setDirl_run (b : Bool) : (s.setDirl b).run = s.run := rfl
@[simp] theorem setDirl_ph (b : Bool) : (s.setDirl b).ph = s.ph := rfl
@[simp] theorem setDirl_resp (b : Bool) : (s.setDirl b).resp = s.resp := rfl
@[simp] theorem setDirl_fault (b : Bool) : (s.setDirl b).fault = s.fault := rfl
@[simp] theorem setDirl_finfo (b : Bool) : (s.setDirl b).finfo = s.finfo := rfl
@[simp] theorem setDirl_trace (b : Bool) : (s.setDirl b).trace = s.trace := rfl
@[simp] theorem setDirl_obslog (b : Bool) : (s.setDirl b).obslog = s.obslog := rfl
@[simp] theorem setDirl_mode (b : Bool) : (s.setDirl b).mode = s.mode := rfl
@[simp] theorem setDirl_prog (b : Bool) : (s.setDirl b).prog = s.prog := rfl
@[simp] theorem setDirl_hidx (b : Bool) : (s.setDirl b).hidx = s.hidx := rfl
@[simp] theorem setDirl_cfg (b : Bool) : (s.setDirl b).cfg = s.cfg := rfl
@[simp] theorem setDirl_sched (b : Bool) : (s.setDirl b).sched = s.sched := rfl
@[simp] theorem setDirl_turn (b : Bool) : (s.setDirl b).turn = s.turn := rfl

/-! ### `State.setFreq` -/

@[simp] theorem setFreq_period (f : Nat) : (s.setFreq f).period = s.period := rfl
@[simp] theorem setFreq_compare (f : Nat) : (s.setFreq f).compare = s.compare := rfl
@[simp] theorem setFreq_cen (f : Nat) : (s.setFreq f).cen = s.cen := rfl
@[simp] theorem setFreq_cnt (f : Nat) : (s.setFreq f).cnt = s.cnt := rfl
@[simp] theorem setFreq_perA (f : Nat) : (s.setFreq f).perA = s.perA := rfl
@[simp] theorem setFreq_cmpA (f : Nat) : (s.setFreq f).cmpA = s.cmpA := rfl
@[simp] theorem setFreq_ie (f : Nat) : (s.setFreq f).ie = s.ie := rfl
@[simp] theorem setFreq_stop (f : Nat) : (s.setFreq f).stop = s.stop := rfl
@[simp] theorem setFreq_dirl (f : Nat) : (s.setFreq f).dirl = s.dirl := rfl
@[simp] theorem setFreq_freq (f : Nat) : (s.setFreq f).freq = f := rfl
@[simp] theorem setFreq_duty (f : Nat) : (s.setFreq f).duty = s.duty := rfl
@[simp] theorem setFreq_dir (f : Nat) : (s.setFreq f).dir = s.dir := rfl
@[simp] theorem setFreq_run (f : Nat) : (s.setFreq f).run = s.run := rfl
@[simp] theorem setFreq_ph (f : Nat) : (s.setFreq f).ph = s.ph := rfl
@[simp] theorem setFreq_resp (f : Nat) : (s.setFreq f).resp = s.resp := rfl
@[simp] theorem setFreq_fault (f : Nat) : (s.setFreq f).fault = s.fault := rfl
@[simp] theorem setFreq_finfo (f : Nat) : (s.setFreq f).finfo = s.finfo := rfl
@[simp] theorem setFreq_trace (f : Nat) : (s.setFreq f).trace = s.trace := rfl
@[simp] theorem setFreq_obslog (f : Nat) : (s.setFreq f).obslog = s.obslog := rfl
@[simp] theorem setFreq_mode (f : Nat) : (s.setFreq f).mode = s.mode := rfl
@[simp] theorem setFreq_prog (f : Nat) : (s.setFreq f).prog = s.prog := rfl
@[simp] theorem setFreq_hidx (f : Nat) : (s.setFreq f).hidx = s.hidx := rfl
@[simp] theorem setFreq_cfg (f : Nat) : (s.setFreq f).cfg = s.cfg := rfl
@[simp] theorem setFreq_sched (f : Nat) : (s.setFreq f).sched = s.sched := rfl
@[simp] theorem setFreq_turn (f : Nat) : (s.setFreq f).turn = s.turn := rfl

/-! ### `State.setDuty` -/

@[simp] theorem setDuty_period (d : Nat) : (s.setDuty d).period = s.period := rfl
@[simp] theorem setDuty_compare (d : Nat) : (s.setDuty d).compare = s.compare := rfl
@[simp] theorem setDuty_cen (d : Nat) : (s.setDuty d).cen = s.cen := rfl
@[simp] theorem setDuty_cnt (d : Nat) : (s.setDuty d).cnt = s.cnt := rfl
@[simp] theorem setDuty_perA (d : Nat) : (s.setDuty d).perA = s.perA := rfl
@[simp] theorem setDuty_cmpA (d : Nat) : (s.setDuty d).cmpA = s.cmpA := rfl
@[simp] theorem setDuty_ie (d : Nat) : (s.setDuty d).ie = s.ie := rfl
@[simp] theorem setDuty_stop (d : Nat) : (s.setDuty d).stop = s.stop := rfl
@[simp] theorem setDuty_dirl (d : Nat) : (s.setDuty d).dirl = s.dirl := rfl
@[simp] theorem setDuty_freq (d : Nat) : (s.setDuty d).freq = s.freq := rfl
@[simp] theorem setDuty_duty (d : Nat) : (s.setDuty d).duty = d := rfl
@[simp] theorem setDuty_dir (d : Nat) : (s.setDuty d).dir = s.dir := rfl
@[simp] theorem setDuty_run (d : Nat) : (s.setDuty d).run = s.run := rfl
@[simp] theorem setDuty_ph (d : Nat) : (s.setDuty d).ph = s.ph := rfl
@[simp] theorem setDuty_resp (d : Nat) : (s.setDuty d).resp = s.resp := rfl
@[simp] theorem setDuty_fault (d : Nat) : (s.setDuty d).fault = s.fault := rfl
@[simp] theorem setDuty_finfo (d : Nat) : (s.setDuty d).finfo = s.finfo := rfl
@[simp] theorem setDuty_trace (d : Nat) : (s.setDuty d).trace = s.trace := rfl
@[simp] theorem setDuty_obslog (d : Nat) : (s.setDuty d).obslog = s.obslog := rfl
@[simp] theorem setDuty_mode (d : Nat) : (s.setDuty d).mode = s.mode := rfl
@[simp] theorem setDuty_prog (d : Nat) : (s.setDuty d).prog = s.prog := rfl
@[simp] theorem setDuty_hidx (d : Nat) : (s.setDuty d).hidx = s.hidx := rfl
@[simp] theorem setDuty_cfg (d : Nat) : (s.setDuty d).cfg = s.cfg := rfl
@[simp] theorem setDuty_sched (d : Nat) : (s.setDuty d).sched = s.sched := rfl
@[simp] theorem setDuty_turn (d : Nat) : (s.setDuty d).turn = s.turn := rfl

/-! ### `State.setDir` -/

@[simp] theorem setDir_period (d : Direction) : (s.setDir d).period = s.period := rfl
@[simp] theorem setDir_compare (d : Direction) : (s.setDir d).compare = s.compare := rfl
@[simp] theorem setDir_cen (d : Direction) : (s.setDir d).cen = s.cen := rfl
@[simp] theorem setDir_cnt (d : Direction) : (s.setDir d).cnt = s.cnt := rfl
@[simp] theorem setDir_perA (d : Direction) : (s.setDir d).perA = s.perA := rfl
@[simp] theorem setDir_cmpA (d : Direction) : (s.setDir d).cmpA = s.cmpA := rfl
@[simp] theorem setDir_ie (d : Direction) : (s.setDir d).ie = s.ie := rfl
@[simp] theorem setDir_stop (d : Direction) : (s.setDir d).stop = s.stop := rfl
@[simp] theorem setDir_dirl (d : Direction) : (s.setDir d).dirl = s.dirl := rfl
@[simp] theorem setDir_freq (d : Direction) : (s.setDir d).freq = s.freq := rfl
@[simp] theorem setDir_duty (d : Direction) : (s.setDir d).duty = s.duty := rfl
@[simp] theorem setDir_dir (d : Direction) : (s.setDir d).dir = d := rfl
@[simp] theorem setDir_run (d : Direction) : (s.setDir d).run = s.run := rfl
@[simp] theorem setDir_ph (d : Direction) : (s.setDir d).ph = s.ph := rfl
@[simp] theorem setDir_resp (d : Direction) : (s.setDir d).resp = s.resp := rfl
@[simp] theorem setDir_fault (d : Direction) : (s.setDir d).fault = s.fault := rfl
@[simp] theorem setDir_finfo (d : Direction) : (s.setDir d).finfo = s.finfo := rfl
@[simp] theorem setDir_trace (d : Direction) : (s.setDir d).trace = s.trace := rfl
@[simp] theorem setDir_obslog (d : Direction) : (s.setDir d).obslog = s.obslog := rfl
@[simp] theorem setDir_mode (d : Direction) : (s.setDir d).mode = s.mode := rfl
@[simp] theorem setDir_prog (d : Direction) : (s.setDir d).prog = s.prog := rfl
@[simp] theorem setDir_hidx (d : Direction) : (s.setDir d).hidx = s.hidx := rfl
@[simp] theorem setDir_cfg (d : Direction) : (s.setDir d).cfg = s.cfg := rfl
@[simp] theorem setDir_sched (d : Direction) : (s.setDir d).sched = s.sched := rfl
@[simp] theorem setDir_turn (d : Direction) : (s.setDir d).turn = s.turn := rfl

/-! ### `State.setRun` -/

@[simp] theorem setRun_period (r : RunState) : (s.setRun r).period = s.period := rfl
@[simp] theorem setRun_compare (r : RunState) : (s.setRun r).compare = s.compare := rfl
@[simp] theorem setRun_cen (r : RunState) : (s.setRun r).cen = s.cen := rfl
@[simp] theorem setRun_cnt (r : RunState) : (s.setRun r).cnt = s.cnt := rfl
@[simp] theorem setRun_perA (r : RunState) : (s.setRun r).perA = s.perA := rfl
@[simp] theorem setRun_cmpA (r : RunState) : (s.setRun r).cmpA = s.cmpA := rfl
@[simp] theorem setRun_ie (r : RunState) : (s.setRun r).ie = s.ie := rfl
@[simp] theorem setRun_stop (r : RunState) : (s.setRun r).stop = s.stop := rfl
@[simp] theorem setRun_dirl (r : RunState) : (s.setRun r).dirl = s.dirl := rfl
@[simp] theorem setRun_freq (r : RunState) : (s.setRun r).freq = s.freq := rfl
@[simp] theorem setRun_duty (r : RunState) : (s.setRun r).duty = s.duty := rfl
@[simp] theorem setRun_dir (r : RunState) : (s.setRun r).dir = s.dir := rfl
@[simp] theorem setRun_run (r : RunState) : (s.setRun r).run = r := rfl
@[simp] theorem setRun_ph (r : RunState) : (s.setRun r).ph = s.ph := rfl
@[simp] theorem setRun_resp (r : RunState) : (s.setRun r).resp = s.resp := rfl
@[simp] theorem setRun_fault (r : RunState) : (s.setRun r).fault = s.fault := rfl
@[simp] theorem setRun_finfo (r : RunState) : (s.setRun r).finfo = s.finfo := rfl
@[simp] theorem setRun_trace (r : RunState) : (s.setRun r).trace = s.trace := rfl
@[simp] theorem setRun_obslog (r : RunState) : (s.setRun r).obslog = s.obslog := rfl
@[simp] theorem setRun_mode (r : RunState) : (s.setRun r).mode = s.mode := rfl
@[simp] theorem setRun_prog (r : RunState) : (s.setRun r).prog = s.prog := rfl
@[simp] theorem setRun_hidx (r : RunState) : (s.setRun r).hidx = s.hidx := rfl
@[simp] theorem setRun_cfg (r : RunState) : (s.setRun r).cfg = s.cfg := rfl
@[simp] theorem setRun_sched (r : RunState) : (s.setRun r).sched = s.sched := rfl
@[simp] theorem setRun_turn (r : RunState) : (s.setRun r).turn = s.turn := rfl

/-! ### `State.goto` -/

@[simp] theorem goto_period (p : Phase) : (s.goto p).period = s.period := rfl
@[simp] theorem goto_compare (p : Phase) : (s.goto p).compare = s.compare := rfl
@[simp] theorem goto_cen (p : Phase) : (s.goto p).cen = s.cen := rfl
@[simp] theorem goto_cnt (p : Phase) : (s.goto p).cnt = s.cnt := rfl
@[simp] theorem goto_perA (p : Phase) : (s.goto p).perA = s.perA := rfl
@[simp] theorem goto_cmpA (p : Phase) : (s.goto p).cmpA = s.cmpA := rfl
@[simp] theorem goto_ie (p : Phase) : (s.goto p).ie = s.ie := rfl
@[simp] theorem goto_stop (p : Phase) : (s.goto p).stop = s.stop := rfl
@[simp] theorem goto_dirl (p : Phase) : (s.goto p).dirl = s.dirl := rfl
@[simp] theorem goto_freq (p : Phase) : (s.goto p).freq = s.freq := rfl
@[simp] theorem goto_duty (p : Phase) : (s.goto p).duty = s.duty := rfl
@[simp] theorem goto_dir (p : Phase) : (s.goto p).dir = s.dir := rfl
@[simp] theorem goto_run (p : Phase) : (s.goto p).run = s.run := rfl
@[simp] theorem goto_ph (p : Phase) : (s.goto p).ph = p := rfl
@[simp] theorem goto_resp (p : Phase) : (s.goto p).resp = s.resp := rfl
@[simp] theorem goto_fault (p : Phase) : (s.goto p).fault = s.fault := rfl
@[simp] theorem goto_finfo (p : Phase) : (s.goto p).finfo = s.finfo := rfl
@[simp] theorem goto_trace (p : Phase) : (s.goto p).trace = s.trace := rfl
@[simp] theorem goto_obslog (p : Phase) : (s.goto p).obslog = s.obslog := rfl
@[simp] theorem goto_mode (p : Phase) : (s.goto p).mode = s.mode := rfl
@[simp] theorem goto_prog (p : Phase) : (s.goto p).prog = s.prog := rfl
@[simp] theorem goto_hidx (p : Phase) : (s.goto p).hidx = s.hidx := rfl
@[simp] theorem goto_cfg (p : Phase) : (s.goto p).cfg = s.cfg := rfl
@[simp] theorem goto_sched (p : Phase) : (s.goto p).sched = s.sched := rfl
@[simp] theorem goto_turn (p : Phase) : (s.goto p).turn = s.turn := rfl

/-! ### `State.emit` -/

@[simp] theorem emit_period (es : List Event) : (s.emit es).period = s.period := rfl
@[simp] theorem emit_compare (es : List Event) : (s.emit es).compare = s.compare := rfl
@[simp] theorem emit_cen (es : List Event) : (s.emit es).cen = s.cen := rfl
@[simp] theorem emit_cnt (es : List Event) : (s.emit es).cnt = s.cnt := rfl
@[simp] theorem emit_perA (es : List Event) : (s.emit es).perA = s.perA := rfl
@[simp] theorem emit_cmpA (es : List Event) : (s.emit es).cmpA = s.cmpA := rfl
@[simp] theorem emit_ie (es : List Event) : (s.emit es).ie = s.ie := rfl
@[simp] theorem emit_stop (es : List Event) : (s.emit es).stop = s.stop := rfl
@[simp] theorem emit_dirl (es : List Event) : (s.emit es).dirl = s.dirl := rfl
@[simp] theorem emit_freq (es : List Event) : (s.emit es).freq = s.freq := rfl
@[simp] theorem emit_duty (es : List Event) : (s.emit es).duty = s.duty := rfl
@[simp] theorem emit_dir (es : List Event) : (s.emit es).dir = s.dir := rfl
@[simp] theorem emit_run (es : List Event) : (s.emit es).run = s.run := rfl
@[simp] theorem emit_ph (es : List Event) : (s.emit es).ph = s.ph := rfl
@[simp] theorem emit_resp (es : List Event) : (s.emit es).resp = s.resp := rfl
@[simp] theorem emit_fault (es : List Event) : (s.emit es).fault = s.fault := rfl
@[simp] theorem emit_finfo (es : List Event) : (s.emit es).finfo = s.finfo := rfl
@[simp] theorem emit_trace (es : List Event) : (s.emit es).trace = s.trace ++ es := rfl
@[simp] theorem emit_obslog (es : List Event) : (s.emit es).obslog = s.obslog := rfl
@[simp] theorem emit_mode (es : List Event) : (s.emit es).mode = s.mode := rfl
@[simp] theorem emit_prog (es : List Event) : (s.emit es).prog = s.prog := rfl
@[simp] theorem emit_hidx (es : List Event) : (s.emit es).hidx = s.hidx := rfl
@[simp] theorem emit_cfg (es : List Event) : (s.emit es).cfg = s.cfg := rfl
@[simp] theorem emit_sched (es : List Event) : (s.emit es).sched = s.sched := rfl
@[simp] theorem emit_turn (es : List Event) : (s.emit es).turn = s.turn := rfl

/-! ### `State.waitFor` -/

@[simp] theorem waitFor_period (t : WaitKind) : (s.waitFor t).period = s.period := rfl
@[simp] theorem waitFor_compare (t : WaitKind) : (s.waitFor t).compare = s.compare := rfl
@[simp] theorem waitFor_cen (t : WaitKind) : (s.waitFor t).cen = s.cen := rfl
@[simp] theorem waitFor_cnt (t : WaitKind) : (s.waitFor t).cnt = s.cnt := rfl
@[simp] theorem waitFor_perA (t : WaitKind) : (s.waitFor t).perA = s.perA := rfl
@[simp] theorem waitFor_cmpA (t : WaitKind) : (s.waitFor t).cmpA = s.cmpA := rfl
@[simp] theorem waitFor_ie (t : WaitKind) : (s.waitFor t).ie = s.ie := rfl
@[simp] theorem waitFor_stop (t : WaitKind) : (s.waitFor t).stop = s.stop := rfl
@[simp] theorem waitFor_dirl (t : WaitKind) : (s.waitFor t).dirl = s.dirl := rfl
@[simp] theorem waitFor_freq (t : WaitKind) : (s.waitFor t).freq = s.freq := rfl
@[simp] theorem waitFor_duty (t : WaitKind) : (s.waitFor t).duty = s.duty := rfl
@[simp] theorem waitFor_dir (t : WaitKind) : (s.waitFor t).dir = s.dir := rfl
@[simp] theorem waitFor_run (t : WaitKind) : (s.waitFor t).run = s.run := rfl
@[simp] theorem waitFor_ph (t : WaitKind) : (s.waitFor t).ph = s.ph := rfl
@[simp] theorem waitFor_resp (t : WaitKind) : (s.waitFor t).resp = s.resp := rfl
@[simp] theorem waitFor_fault (t : WaitKind) : (s.waitFor t).fault = s.fault := rfl
@[simp] theorem waitFor_finfo (t : WaitKind) : (s.waitFor t).finfo = s.finfo := rfl
@[simp] theorem waitFor_trace (t : WaitKind) : (s.waitFor t).trace = s.trace ++ [.wait t] := rfl
@[simp] theorem waitFor_obslog (t : WaitKind) : (s.waitFor t).obslog = s.obslog := rfl
@[simp] theorem waitFor_mode (t : WaitKind) : (s.waitFor t).mode = s.mode := rfl
@[simp] theorem waitFor_prog (t : WaitKind) : (s.waitFor t).prog = s.prog := rfl
@[simp] theorem waitFor_hidx (t : WaitKind) : (s.waitFor t).hidx = s.hidx := rfl
@[simp] theorem waitFor_cfg (t : WaitKind) : (s.waitFor t).cfg = s.cfg := rfl
@[simp] theorem waitFor_sched (t : WaitKind) : (s.waitFor t).sched = s.sched := rfl
@[simp] theorem waitFor_turn (t : WaitKind) : (s.waitFor t).turn = s.turn := rfl

/-! ### `State.setFault` -/

@[simp] theorem setFault_period (c : FaultWord) (i : Word) : (s.setFault c i).period = s.period := rfl
@[simp] theorem setFault_compare (c : FaultWord) (i : Word) : (s.setFault c i).compare = s.compare := rfl
@[simp] theorem setFault_cen (c : FaultWord) (i : Word) : (s.setFault c i).cen = s.cen := rfl
@[simp] theorem setFault_cnt (c : FaultWord) (i : Word) : (s.setFault c i).cnt = s.cnt := rfl
@[simp] theorem setFault_perA (c : FaultWord) (i : Word) : (s.setFault c i).perA = s.perA := rfl
@[simp] theorem setFault_cmpA (c : FaultWord) (i : Word) : (s.setFault c i).cmpA = s.cmpA := rfl
@[simp] theorem setFault_ie (c : FaultWord) (i : Word) : (s.setFault c i).ie = s.ie := rfl
@[simp] theorem setFault_stop (c : FaultWord) (i : Word) : (s.setFault c i).stop = s.stop := rfl
@[simp] theorem setFault_dirl (c : FaultWord) (i : Word) : (s.setFault c i).dirl = s.dirl := rfl
@[simp] theorem setFault_freq (c : FaultWord) (i : Word) : (s.setFault c i).freq = s.freq := rfl
@[simp] theorem setFault_duty (c : FaultWord) (i : Word) : (s.setFault c i).duty = s.duty := rfl
@[simp] theorem setFault_dir (c : FaultWord) (i : Word) : (s.setFault c i).dir = s.dir := rfl
@[simp] theorem setFault_run (c : FaultWord) (i : Word) : (s.setFault c i).run = s.run := rfl
@[simp] theorem setFault_ph (c : FaultWord) (i : Word) : (s.setFault c i).ph = s.ph := rfl
@[simp] theorem setFault_resp (c : FaultWord) (i : Word) : (s.setFault c i).resp = s.resp := rfl
@[simp] theorem setFault_fault (c : FaultWord) (i : Word) : (s.setFault c i).fault = c := rfl
@[simp] theorem setFault_finfo (c : FaultWord) (i : Word) : (s.setFault c i).finfo = i := rfl
@[simp] theorem setFault_trace (c : FaultWord) (i : Word) : (s.setFault c i).trace = s.trace := rfl
@[simp] theorem setFault_obslog (c : FaultWord) (i : Word) : (s.setFault c i).obslog = s.obslog := rfl
@[simp] theorem setFault_mode (c : FaultWord) (i : Word) : (s.setFault c i).mode = s.mode := rfl
@[simp] theorem setFault_prog (c : FaultWord) (i : Word) : (s.setFault c i).prog = s.prog := rfl
@[simp] theorem setFault_hidx (c : FaultWord) (i : Word) : (s.setFault c i).hidx = s.hidx := rfl
@[simp] theorem setFault_cfg (c : FaultWord) (i : Word) : (s.setFault c i).cfg = s.cfg := rfl
@[simp] theorem setFault_sched (c : FaultWord) (i : Word) : (s.setFault c i).sched = s.sched := rfl
@[simp] theorem setFault_turn (c : FaultWord) (i : Word) : (s.setFault c i).turn = s.turn := rfl

/-! ### `State.observePair` -/

@[simp] theorem observePair_period : (s.observePair).period = s.period := rfl
@[simp] theorem observePair_compare : (s.observePair).compare = s.compare := rfl
@[simp] theorem observePair_cen : (s.observePair).cen = s.cen := rfl
@[simp] theorem observePair_cnt : (s.observePair).cnt = s.cnt := rfl
@[simp] theorem observePair_perA : (s.observePair).perA = s.perA := rfl
@[simp] theorem observePair_cmpA : (s.observePair).cmpA = s.cmpA := rfl
@[simp] theorem observePair_ie : (s.observePair).ie = s.ie := rfl
@[simp] theorem observePair_stop : (s.observePair).stop = s.stop := rfl
@[simp] theorem observePair_dirl : (s.observePair).dirl = s.dirl := rfl
@[simp] theorem observePair_freq : (s.observePair).freq = s.freq := rfl
@[simp] theorem observePair_duty : (s.observePair).duty = s.duty := rfl
@[simp] theorem observePair_dir : (s.observePair).dir = s.dir := rfl
@[simp] theorem observePair_run : (s.observePair).run = s.run := rfl
@[simp] theorem observePair_ph : (s.observePair).ph = s.ph := rfl
@[simp] theorem observePair_resp : (s.observePair).resp = s.resp := rfl
@[simp] theorem observePair_fault : (s.observePair).fault = s.fault := rfl
@[simp] theorem observePair_finfo : (s.observePair).finfo = s.finfo := rfl
@[simp] theorem observePair_trace : (s.observePair).trace = s.trace := rfl
@[simp] theorem observePair_obslog : (s.observePair).obslog = s.obslog ++ [(s.period, s.compare)] := rfl
@[simp] theorem observePair_mode : (s.observePair).mode = s.mode := rfl
@[simp] theorem observePair_prog : (s.observePair).prog = s.prog := rfl
@[simp] theorem observePair_hidx : (s.observePair).hidx = s.hidx := rfl
@[simp] theorem observePair_cfg : (s.observePair).cfg = s.cfg := rfl
@[simp] theorem observePair_sched : (s.observePair).sched = s.sched := rfl
@[simp] theorem observePair_turn : (s.observePair).turn = s.turn := rfl

/-! ### `State.nextWord` -/

@[simp] theorem nextWord_period : (s.nextWord).period = s.period := rfl
@[simp] theorem nextWord_compare : (s.nextWord).compare = s.compare := rfl
@[simp] theorem nextWord_cen : (s.nextWord).cen = s.cen := rfl
@[simp] theorem nextWord_cnt : (s.nextWord).cnt = s.cnt := rfl
@[simp] theorem nextWord_perA : (s.nextWord).perA = s.perA := rfl
@[simp] theorem nextWord_cmpA : (s.nextWord).cmpA = s.cmpA := rfl
@[simp] theorem nextWord_ie : (s.nextWord).ie = s.ie := rfl
@[simp] theorem nextWord_stop : (s.nextWord).stop = s.stop := rfl
@[simp] theorem nextWord_dirl : (s.nextWord).dirl = s.dirl := rfl
@[simp] theorem nextWord_freq : (s.nextWord).freq = s.freq := rfl
@[simp] theorem nextWord_duty : (s.nextWord).duty = s.duty := rfl
@[simp] theorem nextWord_dir : (s.nextWord).dir = s.dir := rfl
@[simp] theorem nextWord_run : (s.nextWord).run = s.run := rfl
@[simp] theorem nextWord_ph : (s.nextWord).ph = s.ph := rfl
@[simp] theorem nextWord_resp : (s.nextWord).resp = s.resp := rfl
@[simp] theorem nextWord_fault : (s.nextWord).fault = s.fault := rfl
@[simp] theorem nextWord_finfo : (s.nextWord).finfo = s.finfo := rfl
@[simp] theorem nextWord_trace : (s.nextWord).trace = s.trace := rfl
@[simp] theorem nextWord_obslog : (s.nextWord).obslog = s.obslog := rfl
@[simp] theorem nextWord_mode : (s.nextWord).mode = s.mode := rfl
@[simp] theorem nextWord_prog : (s.nextWord).prog = s.prog := rfl
@[simp] theorem nextWord_hidx : (s.nextWord).hidx = s.hidx + 1 := rfl
@[simp] theorem nextWord_cfg : (s.nextWord).cfg = s.cfg := rfl
@[simp] theorem nextWord_sched : (s.nextWord).sched = s.sched := rfl
@[simp] theorem nextWord_turn : (s.nextWord).turn = s.turn := rfl

end Sys2Proof.Machine
end

