-- ==== Sys2Proof/Laws/Ops.lean ====
section
/-! SUPPORT. What the shared operations of Machine/Ops.lean can do, said once for each: the active copies, the brackets,
taking a fault, performing a command, and the host's reset. -/

namespace Sys2Proof.Machine

/-! ### `applyActive` (R183) -/

theorem applyActive_immediate {s : State} (h : s.cfg.updateLatch = .immediate) :
    applyActive s = s.loadActive s.period s.compare := by
  simp [applyActive, h]

theorem applyActive_cycleBoundary {s : State} (h : s.cfg.updateLatch = .cycleBoundary) : applyActive s = s := by
  simp [applyActive, h]

@[simp] theorem applyActive_period (s : State) : (applyActive s).period = s.period := by
  unfold applyActive; split <;> rfl
@[simp] theorem applyActive_compare (s : State) : (applyActive s).compare = s.compare := by
  unfold applyActive; split <;> rfl
@[simp] theorem applyActive_cen (s : State) : (applyActive s).cen = s.cen := by
  unfold applyActive; split <;> rfl
@[simp] theorem applyActive_cnt (s : State) : (applyActive s).cnt = s.cnt := by
  unfold applyActive; split <;> rfl
@[simp] theorem applyActive_ie (s : State) : (applyActive s).ie = s.ie := by
  unfold applyActive; split <;> rfl
@[simp] theorem applyActive_stop (s : State) : (applyActive s).stop = s.stop := by
  unfold applyActive; split <;> rfl
@[simp] theorem applyActive_dirl (s : State) : (applyActive s).dirl = s.dirl := by
  unfold applyActive; split <;> rfl
@[simp] theorem applyActive_freq (s : State) : (applyActive s).freq = s.freq := by
  unfold applyActive; split <;> rfl
@[simp] theorem applyActive_duty (s : State) : (applyActive s).duty = s.duty := by
  unfold applyActive; split <;> rfl
@[simp] theorem applyActive_dir (s : State) : (applyActive s).dir = s.dir := by
  unfold applyActive; split <;> rfl
@[simp] theorem applyActive_run (s : State) : (applyActive s).run = s.run := by
  unfold applyActive; split <;> rfl
@[simp] theorem applyActive_ph (s : State) : (applyActive s).ph = s.ph := by
  unfold applyActive; split <;> rfl
@[simp] theorem applyActive_resp (s : State) : (applyActive s).resp = s.resp := by
  unfold applyActive; split <;> rfl
@[simp] theorem applyActive_fault (s : State) : (applyActive s).fault = s.fault := by
  unfold applyActive; split <;> rfl
@[simp] theorem applyActive_finfo (s : State) : (applyActive s).finfo = s.finfo := by
  unfold applyActive; split <;> rfl
@[simp] theorem applyActive_trace (s : State) : (applyActive s).trace = s.trace := by
  unfold applyActive; split <;> rfl
@[simp] theorem applyActive_obslog (s : State) : (applyActive s).obslog = s.obslog := by
  unfold applyActive; split <;> rfl
@[simp] theorem applyActive_mode (s : State) : (applyActive s).mode = s.mode := by
  unfold applyActive; split <;> rfl
@[simp] theorem applyActive_prog (s : State) : (applyActive s).prog = s.prog := by
  unfold applyActive; split <;> rfl
@[simp] theorem applyActive_hidx (s : State) : (applyActive s).hidx = s.hidx := by
  unfold applyActive; split <;> rfl
@[simp] theorem applyActive_cfg (s : State) : (applyActive s).cfg = s.cfg := by
  unfold applyActive; split <;> rfl
@[simp] theorem applyActive_sched (s : State) : (applyActive s).sched = s.sched := by
  unfold applyActive; split <;> rfl
@[simp] theorem applyActive_turn (s : State) : (applyActive s).turn = s.turn := by
  unfold applyActive; split <;> rfl

/-! ### `takeFault` (R171) -/

theorem takeFault_controller {s : State} (r : Raise) (h : s.fault = 0) (hm : s.mode = .controller) :
    takeFault s r = { s with fault := r.code, finfo := r.info, ph := .halted } := by
  simp [takeFault, h, hm, State.setFault, State.goto]

theorem takeFault_harness {s : State} (r : Raise) (h : s.fault = 0) (hm : s.mode = .harness) :
    takeFault s r = { s with fault := r.code, finfo := r.info } := by
  simp [takeFault, h, hm, State.setFault]

/-- The first fault is kept (R171, R173). -/
theorem takeFault_keeps_first {s : State} (r : Raise) (h : s.fault ≠ 0) :
    (takeFault s r).fault = s.fault ∧ (takeFault s r).finfo = s.finfo := by
  unfold takeFault
  rw [if_neg h]
  cases s.mode <;> exact ⟨rfl, rfl⟩

@[simp] theorem takeFault_period (s : State) (r : Raise) : (takeFault s r).period = s.period := by
  unfold takeFault; split <;> split <;> rfl
@[simp] theorem takeFault_compare (s : State) (r : Raise) : (takeFault s r).compare = s.compare := by
  unfold takeFault; split <;> split <;> rfl
@[simp] theorem takeFault_cen (s : State) (r : Raise) : (takeFault s r).cen = s.cen := by
  unfold takeFault; split <;> split <;> rfl
@[simp] theorem takeFault_cnt (s : State) (r : Raise) : (takeFault s r).cnt = s.cnt := by
  unfold takeFault; split <;> split <;> rfl
@[simp] theorem takeFault_perA (s : State) (r : Raise) : (takeFault s r).perA = s.perA := by
  unfold takeFault; split <;> split <;> rfl
@[simp] theorem takeFault_cmpA (s : State) (r : Raise) : (takeFault s r).cmpA = s.cmpA := by
  unfold takeFault; split <;> split <;> rfl
@[simp] theorem takeFault_ie (s : State) (r : Raise) : (takeFault s r).ie = s.ie := by
  unfold takeFault; split <;> split <;> rfl
@[simp] theorem takeFault_stop (s : State) (r : Raise) : (takeFault s r).stop = s.stop := by
  unfold takeFault; split <;> split <;> rfl
@[simp] theorem takeFault_dirl (s : State) (r : Raise) : (takeFault s r).dirl = s.dirl := by
  unfold takeFault; split <;> split <;> rfl
@[simp] theorem takeFault_freq (s : State) (r : Raise) : (takeFault s r).freq = s.freq := by
  unfold takeFault; split <;> split <;> rfl
@[simp] theorem takeFault_duty (s : State) (r : Raise) : (takeFault s r).duty = s.duty := by
  unfold takeFault; split <;> split <;> rfl
@[simp] theorem takeFault_dir (s : State) (r : Raise) : (takeFault s r).dir = s.dir := by
  unfold takeFault; split <;> split <;> rfl
@[simp] theorem takeFault_run (s : State) (r : Raise) : (takeFault s r).run = s.run := by
  unfold takeFault; split <;> split <;> rfl
@[simp] theorem takeFault_resp (s : State) (r : Raise) : (takeFault s r).resp = s.resp := by
  unfold takeFault; split <;> split <;> rfl
@[simp] theorem takeFault_trace (s : State) (r : Raise) : (takeFault s r).trace = s.trace := by
  unfold takeFault; split <;> split <;> rfl
@[simp] theorem takeFault_obslog (s : State) (r : Raise) : (takeFault s r).obslog = s.obslog := by
  unfold takeFault; split <;> split <;> rfl
@[simp] theorem takeFault_mode (s : State) (r : Raise) : (takeFault s r).mode = s.mode := by
  unfold takeFault; split <;> split <;> rfl
@[simp] theorem takeFault_prog (s : State) (r : Raise) : (takeFault s r).prog = s.prog := by
  unfold takeFault; split <;> split <;> rfl
@[simp] theorem takeFault_hidx (s : State) (r : Raise) : (takeFault s r).hidx = s.hidx := by
  unfold takeFault; split <;> split <;> rfl
@[simp] theorem takeFault_cfg (s : State) (r : Raise) : (takeFault s r).cfg = s.cfg := by
  unfold takeFault; split <;> split <;> rfl
@[simp] theorem takeFault_sched (s : State) (r : Raise) : (takeFault s r).sched = s.sched := by
  unfold takeFault; split <;> split <;> rfl
@[simp] theorem takeFault_turn (s : State) (r : Raise) : (takeFault s r).turn = s.turn := by
  unfold takeFault; split <;> split <;> rfl

@[simp] theorem faultNumber_ne_zero (c : FaultCode) : faultNumber c ≠ 0 := by
  cases c <;> decide

theorem faultNumber_le_seven (c : FaultCode) : (faultNumber c).toNat ≤ 7 := by
  cases c <;> decide

@[simp] theorem fault_code (c : FaultCode) (i : Word) : (fault c i).code = faultNumber c := rfl
@[simp] theorem fault_info (c : FaultCode) (i : Word) : (fault c i).info = i := rfl

/-- Every raised fault has a code from 1 to 7 (R170). -/
theorem fault_code_legal (c : FaultCode) (i : Word) : (fault c i).code ≠ 0 ∧ (fault c i).code.toNat ≤ 7 :=
  ⟨faultNumber_ne_zero c, faultNumber_le_seven c⟩

/-! ### `perform` (R83) -/

theorem perform_ok {s t : State} (h : s.fault = 0) : perform s (.ok t) = .next t := by
  simp [perform, h]

theorem perform_error {s : State} {r : Raise} (h : s.fault = 0) : perform s (.error r) = .next (takeFault s r) := by
  simp [perform, h]

theorem perform_faulted {s : State} {r : Except Raise State} (h : s.fault ≠ 0) : perform s r = .next s := by
  unfold perform
  exact if_pos h

/-- Everything performing a command can do. -/
theorem perform_cases {s t : State} {r : Except Raise State} (h : perform s r = .next t) :
    (s.fault ≠ 0 ∧ t = s) ∨ (s.fault = 0 ∧ r = .ok t) ∨ (s.fault = 0 ∧ ∃ e, r = .error e ∧ t = takeFault s e) := by
  unfold perform at h
  split at h
  next hf =>
    injection h with h
    exact .inl ⟨hf, h.symm⟩
  next hf =>
    have hf' : s.fault = 0 := Decidable.not_not.mp hf
    cases r with
    | ok u =>
      injection h with h
      exact .inr (.inl ⟨hf', by rw [h]⟩)
    | error e =>
      injection h with h
      exact .inr (.inr ⟨hf', e, rfl, h.symm⟩)

/-- Performing a command answers a next state whatever its result is. -/
theorem perform_next (s : State) (r : Except Raise State) : ∃ t, perform s r = .next t := by
  unfold perform
  split
  · exact ⟨_, rfl⟩
  · cases r <;> exact ⟨_, rfl⟩

/-! ### `hostReset` (R210) -/

@[simp] theorem hostReset_period (s : State) : (hostReset s).period = 0 := rfl
@[simp] theorem hostReset_compare (s : State) : (hostReset s).compare = 0 := rfl
@[simp] theorem hostReset_cen (s : State) : (hostReset s).cen = false := rfl
@[simp] theorem hostReset_cnt (s : State) : (hostReset s).cnt = 0 := rfl
@[simp] theorem hostReset_perA (s : State) : (hostReset s).perA = 0 := rfl
@[simp] theorem hostReset_cmpA (s : State) : (hostReset s).cmpA = 0 := rfl
@[simp] theorem hostReset_ie (s : State) : (hostReset s).ie = false := rfl
@[simp] theorem hostReset_stop (s : State) : (hostReset s).stop = false := rfl
@[simp] theorem hostReset_dirl (s : State) : (hostReset s).dirl = false := rfl
@[simp] theorem hostReset_freq (s : State) : (hostReset s).freq = s.cfg.fBase := rfl
@[simp] theorem hostReset_duty (s : State) : (hostReset s).duty = s.cfg.dBase := rfl
@[simp] theorem hostReset_dir (s : State) : (hostReset s).dir = .forward := rfl
@[simp] theorem hostReset_run (s : State) : (hostReset s).run = .running := rfl
@[simp] theorem hostReset_ph (s : State) : (hostReset s).ph = .boot := rfl
@[simp] theorem hostReset_resp (s : State) : (hostReset s).resp = 0 := rfl
@[simp] theorem hostReset_fault (s : State) : (hostReset s).fault = 0 := rfl
@[simp] theorem hostReset_finfo (s : State) : (hostReset s).finfo = 0 := rfl
@[simp] theorem hostReset_trace (s : State) : (hostReset s).trace = [] := rfl
@[simp] theorem hostReset_obslog (s : State) : (hostReset s).obslog = [] := rfl
@[simp] theorem hostReset_mode (s : State) : (hostReset s).mode = s.mode := rfl
@[simp] theorem hostReset_prog (s : State) : (hostReset s).prog = s.prog := rfl
@[simp] theorem hostReset_hidx (s : State) : (hostReset s).hidx = 0 := rfl
@[simp] theorem hostReset_cfg (s : State) : (hostReset s).cfg = s.cfg := rfl
@[simp] theorem hostReset_sched (s : State) : (hostReset s).sched = s.sched := rfl
@[simp] theorem hostReset_turn (s : State) : (hostReset s).turn = s.turn := rfl

end Sys2Proof.Machine
end

