-- ==== Sys2Proof/Laws/Arith.lean ====
section
/-! SUPPORT. What PeriodOf and CompareOf answer (40_pwm_generator.md R91, R92). -/

namespace Sys2Proof.Machine

/-- PeriodOf's three outcomes besides `FREQ_ZERO`, each with the condition that leads to it. -/
theorem periodOf_cases (c : Config) (f : FreqWord) :
    (f = 0 ∧ periodOf c f = .error (fault .freqZero (zextFreq f))) ∨
    (f ≠ 0 ∧ 2 ^ c.arithWidth ≤ c.prescaler * f.toNat ∧
      periodOf c f = .error (fault .arithOverflow (zextFreq f))) ∨
    (f ≠ 0 ∧ c.prescaler * f.toNat < 2 ^ c.arithWidth ∧
      (c.inputClockHz / (c.prescaler * f.toNat) = 0 ∨
        2 ^ c.counterWidth ≤ c.inputClockHz / (c.prescaler * f.toNat) - 1) ∧
      periodOf c f = .error (fault .periodRange (zextFreq f))) ∨
    (f ≠ 0 ∧ c.prescaler * f.toNat < 2 ^ c.arithWidth ∧ c.inputClockHz / (c.prescaler * f.toNat) ≠ 0 ∧
      c.inputClockHz / (c.prescaler * f.toNat) - 1 < 2 ^ c.counterWidth ∧
      periodOf c f = .ok (c.inputClockHz / (c.prescaler * f.toNat) - 1)) := by
  unfold periodOf
  split
  · exact .inl ⟨‹_›, rfl⟩
  split
  · exact .inr (.inl ⟨‹_›, ‹_›, rfl⟩)
  split
  · exact .inr (.inr (.inl ⟨‹_›, Nat.lt_of_not_le ‹_›, .inl ‹_›, rfl⟩))
  split
  · exact .inr (.inr (.inl ⟨‹_›, Nat.lt_of_not_le ‹_›, .inr ‹_›, rfl⟩))
  · exact .inr (.inr (.inr ⟨‹_›, Nat.lt_of_not_le ‹_›, ‹_›, Nat.lt_of_not_le ‹_›, rfl⟩))

/-- A period that PeriodOf answers. -/
theorem periodOf_ok {c : Config} {f : FreqWord} {p : Nat} (h : periodOf c f = .ok p) :
    f ≠ 0 ∧ c.prescaler * f.toNat < 2 ^ c.arithWidth ∧ c.inputClockHz / (c.prescaler * f.toNat) = p + 1 ∧
      p < 2 ^ c.counterWidth := by
  rcases periodOf_cases c f with ⟨_, e⟩ | ⟨_, _, e⟩ | ⟨_, _, _, e⟩ | ⟨h0, h1, h2, h3, e⟩ <;> rw [e] at h
  · cases h
  · cases h
  · cases h
  · injection h with h
    subst h
    exact ⟨h0, h1, (Nat.succ_pred_eq_of_ne_zero h2).symm, h3⟩

/-- A fault of PeriodOf carries a code of R170 that is not 0. -/
theorem periodOf_error {c : Config} {f : FreqWord} {r : Raise} (h : periodOf c f = .error r) :
    r.code ≠ 0 ∧ r.code.toNat ≤ 7 := by
  rcases periodOf_cases c f with ⟨_, e⟩ | ⟨_, _, e⟩ | ⟨_, _, _, e⟩ | ⟨_, _, _, _, e⟩ <;> rw [e] at h
  · injection h with h; subst h; exact fault_code_legal _ _
  · injection h with h; subst h; exact fault_code_legal _ _
  · injection h with h; subst h; exact fault_code_legal _ _
  · cases h

/-- CompareOf's outcomes. -/
theorem compareOf_cases (c : Config) (p : Nat) (d : DutyWord) :
    (100 < d.toNat ∧ compareOf c p d = .error (fault .dutyRange (zextDuty d))) ∨
    (d.toNat ≤ 100 ∧ 2 ^ c.arithWidth ≤ p * d.toNat ∧
      compareOf c p d = .error (fault .arithOverflow (zextDuty d))) ∨
    (d.toNat ≤ 100 ∧ p * d.toNat < 2 ^ c.arithWidth ∧
      compareOf c p d = .ok (p * d.toNat / 100)) := by
  unfold compareOf
  split
  · exact .inl ⟨‹_›, rfl⟩
  split
  · exact .inr (.inl ⟨Nat.le_of_not_lt ‹_›, ‹_›, rfl⟩)
  · exact .inr (.inr ⟨Nat.le_of_not_lt ‹_›, Nat.lt_of_not_le ‹_›, rfl⟩)

/-- The quotient of CompareOf is at most the period. -/
theorem compare_quotient_le {p d : Nat} (h : d ≤ 100) : p * d / 100 ≤ p := by
  have h1 : p * d ≤ p * 100 := Nat.mul_le_mul_left p h
  omega

/-- A compare value that CompareOf answers (R92, R93(a)). -/
theorem compareOf_ok {c : Config} {p v : Nat} {d : DutyWord} (h : compareOf c p d = .ok v) :
    d.toNat ≤ 100 ∧ p * d.toNat < 2 ^ c.arithWidth ∧ v = p * d.toNat / 100 ∧
      v ≤ p := by
  rcases compareOf_cases c p d with ⟨_, e⟩ | ⟨_, _, e⟩ | ⟨h0, h1, e⟩ <;> rw [e] at h
  · cases h
  · cases h
  · injection h with h
    subst h
    exact ⟨h0, h1, rfl, compare_quotient_le h0⟩

/-- A fault of CompareOf carries a code of R170 that is not 0. -/
theorem compareOf_error {c : Config} {p : Nat} {d : DutyWord} {r : Raise} (h : compareOf c p d = .error r) :
    r.code ≠ 0 ∧ r.code.toNat ≤ 7 := by
  rcases compareOf_cases c p d with ⟨_, e⟩ | ⟨_, _, e⟩ | ⟨_, _, e⟩ <;> rw [e] at h
  · injection h with h; subst h; exact fault_code_legal _ _
  · injection h with h; subst h; exact fault_code_legal _ _
  · cases h

/-- The widths that `configValid` checks, as propositions. -/
theorem configValid_widths {c : Config} (h : configValid c = true) :
    c.counterWidth ≤ 32 ∧ c.freqWidth ≤ 16 ∧ c.dutyWidth ≤ 8 ∧ c.dBase < 2 ^ c.dutyWidth := by
  simp only [configValid, widthsFit, Bool.and_eq_true, decide_eq_true_eq] at h
  obtain ⟨⟨⟨⟨h1, h2⟩, h3⟩, h4⟩, _⟩ := h
  exact ⟨h1, h2, h3, h4⟩

/-- Every value of a counter-wide register, of `FREQ` and of `DUTY` fits the place a command or a response gives it. -/
theorem configValid_bounds {c : Config} (h : configValid c = true) :
    2 ^ c.counterWidth ≤ 4294967296 ∧ 2 ^ c.freqWidth ≤ 65536 ∧ 2 ^ c.dutyWidth ≤ 256 := by
  obtain ⟨h1, h2, h3, _⟩ := configValid_widths h
  exact ⟨Nat.pow_le_pow_right (by decide) h1, Nat.pow_le_pow_right (by decide) h2,
    Nat.pow_le_pow_right (by decide) h3⟩

/-- Every constraint of R7 that `configValid` checks, as propositions. -/
theorem configValid_cases {c : Config} (h : configValid c = true) :
    c.inputClockHz < 2 ^ c.arithWidth ∧ 1 ≤ c.prescaler ∧ c.counterWidth ≤ c.arithWidth ∧ 1 ≤ c.fBase ∧
      c.dBase ≤ 100 ∧ c.fBase < 2 ^ c.freqWidth ∧ c.fCeil < 2 ^ c.freqWidth ∧ 1 ≤ c.dStep ∧
      ∃ p, periodOf c (BitVec.ofNat 16 c.fBase) = .ok p := by
  simp only [configValid, constraintsHold, Bool.and_eq_true, decide_eq_true_eq] at h
  obtain ⟨_, ⟨⟨⟨⟨⟨⟨⟨h1, h2⟩, h3⟩, h4⟩, h5⟩, h6⟩, h7⟩, h8⟩, h9⟩ := h
  refine ⟨h1, h2, h3, h4, h5, h6, h7, h8, ?_⟩
  unfold basePeriodFits at h9
  split at h9
  · exact ⟨_, ‹_›⟩
  · cases h9

end Sys2Proof.Machine
end

