-- ==== Sys2Proof/Laws/Exec.lean ====
section
/-! SUPPORT. What a command can do: the record each generator update leaves, the result of every command, and the cases
of `exec`. -/

namespace Sys2Proof.Machine

theorem activeAfter_immediate {c : Config} (h : c.updateLatch = .immediate) (reg act : Nat) :
    activeAfter c reg act = reg := by
  simp [activeAfter, h]

theorem activeAfter_cycleBoundary {c : Config} (h : c.updateLatch = .cycleBoundary) (reg act : Nat) :
    activeAfter c reg act = act := by
  simp [activeAfter, h]

/-- Everything `apply_active()` can do. -/
theorem applyActive_eq (s : State) :
    applyActive s =
      { s with perA := activeAfter s.cfg s.period s.perA, cmpA := activeAfter s.cfg s.compare s.cmpA } := by
  unfold applyActive activeAfter
  cases s.cfg.updateLatch <;> rfl

/-- Everything SETF's writes do (R95). -/
theorem installPeriod_eq (p : Nat) (s : State) :
    installPeriod p s =
      { s with period := p, perA := activeAfter s.cfg p s.perA, cmpA := activeAfter s.cfg s.compare s.cmpA } := by
  unfold installPeriod bracket
  dsimp only
  rw [applyActive_eq]
  rfl

/-- Everything SETD's writes do (R96). -/
theorem installCompare_eq (c : Nat) (s : State) :
    installCompare c s =
      { s with compare := c, perA := activeAfter s.cfg s.period s.perA, cmpA := activeAfter s.cfg c s.cmpA } := by
  unfold installCompare bracket
  dsimp only
  rw [applyActive_eq]
  rfl

/-- Everything INIT's writes do on a running counter (R94). -/
theorem installPair_running (p c : Nat) {s : State} (h : s.cen = true) :
    installPair p c s =
      { s with period := p, compare := c, ie := true, perA := activeAfter s.cfg p s.perA,
               cmpA := activeAfter s.cfg c s.cmpA } := by
  have hs : startOrApply p c (((s.setIe false).setPeriod p).setCompare c) =
      applyActive (((s.setIe false).setPeriod p).setCompare c) := if_pos h
  unfold installPair bracketEnable
  dsimp only
  rw [hs, applyActive_eq]
  rfl

/-- Everything INIT's writes do on a stopped counter (R94). -/
theorem installPair_stopped (p c : Nat) {s : State} (h : s.cen = false) :
    installPair p c s =
      { s with period := p, compare := c, ie := true, cen := true, cnt := 0, perA := p, cmpA := c } := by
  have hs : startOrApply p c (((s.setIe false).setPeriod p).setCompare c) =
      (((s.setIe false).setPeriod p).setCompare c).startCounter p c := if_neg (by simp [h])
  unfold installPair bracketEnable
  dsimp only
  rw [hs]
  rfl

/-- What a command's rule asks for, before R83's frame around it. -/
def commandResult (i : Instr) (s : State) : Except Raise State :=
  match i with
  | .init f d => initResult f d s
  | .setf f   => setfResult f s
  | .setd d   => setdResult d s
  | .rdper    => .ok (s.respond (zextReg s.period))
  | .rdcmp    => .ok (s.respond (zextReg s.compare))
  | .rdstop   => .ok (s.respond (zextBit s.stop))
  | .clrstop  => .ok (s.setStop false)
  | .tglstop  => .ok (s.setStop (!s.stop))
  | .tgldir   => .ok (s.setDirl (!s.dirl))

/-- Every command is its rule inside the frame of R83. -/
theorem exec_eq_perform (i : Instr) (s : State) : exec i s = perform s (commandResult i s) := by
  cases i <;> rfl

/-- INIT's two outcomes. -/
theorem initResult_cases (f : FreqWord) (d : DutyWord) (s : State) :
    (∃ p c, periodOf s.cfg f = .ok p ∧ compareOf s.cfg p d = .ok c ∧ initResult f d s = .ok (installPair p c s)) ∨
    (∃ r, (periodOf s.cfg f = .error r ∨ ∃ p, periodOf s.cfg f = .ok p ∧ compareOf s.cfg p d = .error r) ∧
      initResult f d s = .error r) := by
  unfold initResult
  cases hp : periodOf s.cfg f with
  | error r => exact .inr ⟨r, .inl rfl, rfl⟩
  | ok p =>
    cases hc : compareOf s.cfg p d with
    | error r => exact .inr ⟨r, .inr ⟨p, rfl, hc⟩, by simp only [hc]⟩
    | ok c    => exact .inl ⟨p, c, rfl, hc, by simp only [hc]⟩

/-- SETF's two outcomes. -/
theorem setfResult_cases (f : FreqWord) (s : State) :
    (∃ p, periodOf s.cfg f = .ok p ∧ setfResult f s = .ok (installPeriod p s)) ∨
    (∃ r, periodOf s.cfg f = .error r ∧ setfResult f s = .error r) := by
  unfold setfResult
  cases periodOf s.cfg f with
  | error r => exact .inr ⟨r, rfl, rfl⟩
  | ok p    => exact .inl ⟨p, rfl, rfl⟩

/-- SETD's two outcomes. -/
theorem setdResult_cases (d : DutyWord) (s : State) :
    (∃ c, compareOf s.cfg s.period d = .ok c ∧ setdResult d s = .ok (installCompare c s)) ∨
    (∃ r, compareOf s.cfg s.period d = .error r ∧ setdResult d s = .error r) := by
  unfold setdResult
  cases compareOf s.cfg s.period d with
  | error r => exact .inr ⟨r, rfl, rfl⟩
  | ok c    => exact .inl ⟨c, rfl, rfl⟩

/-- A fault a command raises carries a code of R170 that is not 0. -/
theorem commandResult_error {i : Instr} {s : State} {r : Raise} (h : commandResult i s = .error r) :
    r.code ≠ 0 ∧ r.code.toNat ≤ 7 := by
  cases i with
  | init f d =>
    rcases initResult_cases f d s with ⟨_, _, _, _, e⟩ | ⟨r', hr, e⟩ <;> simp only [commandResult, e] at h
    · cases h
    · injection h with h
      subst h
      rcases hr with hr | ⟨_, _, hr⟩
      · exact periodOf_error hr
      · exact compareOf_error hr
  | setf f =>
    rcases setfResult_cases f s with ⟨_, _, e⟩ | ⟨r', hr, e⟩ <;> simp only [commandResult, e] at h
    · cases h
    · injection h with h
      subst h
      exact periodOf_error hr
  | setd d =>
    rcases setdResult_cases d s with ⟨_, _, e⟩ | ⟨r', hr, e⟩ <;> simp only [commandResult, e] at h
    · cases h
    · injection h with h
      subst h
      exact compareOf_error hr
  | _ => cases h

/-- A command that does not fault keeps `FAULT`. -/
theorem commandResult_ok_fault {i : Instr} {s t : State} (h : commandResult i s = .ok t) :
    t.fault = s.fault ∧ t.finfo = s.finfo ∧ t.ph = s.ph := by
  cases i with
  | init f d =>
    rcases initResult_cases f d s with ⟨p, c, _, _, e⟩ | ⟨r', _, e⟩ <;> simp only [commandResult, e] at h
    · injection h with h
      subst h
      cases hc : s.cen
      · rw [installPair_stopped p c hc]; exact ⟨rfl, rfl, rfl⟩
      · rw [installPair_running p c hc]; exact ⟨rfl, rfl, rfl⟩
    · cases h
  | setf f =>
    rcases setfResult_cases f s with ⟨p, _, e⟩ | ⟨r', _, e⟩ <;> simp only [commandResult, e] at h
    · injection h with h
      subst h
      rw [installPeriod_eq]; exact ⟨rfl, rfl, rfl⟩
    · cases h
  | setd d =>
    rcases setdResult_cases d s with ⟨p, _, e⟩ | ⟨r', _, e⟩ <;> simp only [commandResult, e] at h
    · injection h with h
      subst h
      rw [installCompare_eq]; exact ⟨rfl, rfl, rfl⟩
    · cases h
  | _ => injection h with h; subst h; exact ⟨rfl, rfl, rfl⟩

/-- Everything `exec` can do on a block without a fault: the command's result, or the fault it raises. -/
theorem exec_cases {i : Instr} {s : State} (h : s.fault = 0) :
    (∃ t, commandResult i s = .ok t ∧ t.fault = 0 ∧ exec i s = .next t) ∨
    (∃ r, commandResult i s = .error r ∧ r.code ≠ 0 ∧ exec i s = .next (takeFault s r)) := by
  rw [exec_eq_perform]
  cases hr : commandResult i s with
  | ok t    => exact .inl ⟨t, rfl, (commandResult_ok_fault hr).1.trans h, perform_ok h⟩
  | error r => exact .inr ⟨r, rfl, (commandResult_error hr).1, perform_error h⟩

end Sys2Proof.Machine
end

