-- ==== Sys2Proof/Laws/Step.lean ====
section
/-! SUPPORT. What the issuer, a phase's commands and a whole step can do. -/

namespace Sys2Proof.Machine

/-! ### `takeTurn` (R193) changes only the schedule -/

@[simp] theorem takeTurn_period (s : State) : (takeTurn s).period = s.period := by
  unfold takeTurn; split <;> rfl
@[simp] theorem takeTurn_compare (s : State) : (takeTurn s).compare = s.compare := by
  unfold takeTurn; split <;> rfl
@[simp] theorem takeTurn_cen (s : State) : (takeTurn s).cen = s.cen := by
  unfold takeTurn; split <;> rfl
@[simp] theorem takeTurn_cnt (s : State) : (takeTurn s).cnt = s.cnt := by
  unfold takeTurn; split <;> rfl
@[simp] theorem takeTurn_perA (s : State) : (takeTurn s).perA = s.perA := by
  unfold takeTurn; split <;> rfl
@[simp] theorem takeTurn_cmpA (s : State) : (takeTurn s).cmpA = s.cmpA := by
  unfold takeTurn; split <;> rfl
@[simp] theorem takeTurn_ie (s : State) : (takeTurn s).ie = s.ie := by
  unfold takeTurn; split <;> rfl
@[simp] theorem takeTurn_stop (s : State) : (takeTurn s).stop = s.stop := by
  unfold takeTurn; split <;> rfl
@[simp] theorem takeTurn_dirl (s : State) : (takeTurn s).dirl = s.dirl := by
  unfold takeTurn; split <;> rfl
@[simp] theorem takeTurn_freq (s : State) : (takeTurn s).freq = s.freq := by
  unfold takeTurn; split <;> rfl
@[simp] theorem takeTurn_duty (s : State) : (takeTurn s).duty = s.duty := by
  unfold takeTurn; split <;> rfl
@[simp] theorem takeTurn_dir (s : State) : (takeTurn s).dir = s.dir := by
  unfold takeTurn; split <;> rfl
@[simp] theorem takeTurn_run (s : State) : (takeTurn s).run = s.run := by
  unfold takeTurn; split <;> rfl
@[simp] theorem takeTurn_ph (s : State) : (takeTurn s).ph = s.ph := by
  unfold takeTurn; split <;> rfl
@[simp] theorem takeTurn_resp (s : State) : (takeTurn s).resp = s.resp := by
  unfold takeTurn; split <;> rfl
@[simp] theorem takeTurn_fault (s : State) : (takeTurn s).fault = s.fault := by
  unfold takeTurn; split <;> rfl
@[simp] theorem takeTurn_finfo (s : State) : (takeTurn s).finfo = s.finfo := by
  unfold takeTurn; split <;> rfl
@[simp] theorem takeTurn_trace (s : State) : (takeTurn s).trace = s.trace := by
  unfold takeTurn; split <;> rfl
@[simp] theorem takeTurn_obslog (s : State) : (takeTurn s).obslog = s.obslog := by
  unfold takeTurn; split <;> rfl
@[simp] theorem takeTurn_mode (s : State) : (takeTurn s).mode = s.mode := by
  unfold takeTurn; split <;> rfl
@[simp] theorem takeTurn_prog (s : State) : (takeTurn s).prog = s.prog := by
  unfold takeTurn; split <;> rfl
@[simp] theorem takeTurn_hidx (s : State) : (takeTurn s).hidx = s.hidx := by
  unfold takeTurn; split <;> rfl
@[simp] theorem takeTurn_cfg (s : State) : (takeTurn s).cfg = s.cfg := by
  unfold takeTurn; split <;> rfl

theorem takeTurn_scheduled {s : State} {m : Move} {rest : List Move} (h : s.sched = m :: rest) :
    dueMove s = m ∧ takeTurn s = { s with sched := rest } := by
  simp [dueMove, takeTurn, h]

/-! ### The step -/

theorem step_valid {s : State} (h : configValid s.cfg = true) : step s = agentStep (dueMove s) (takeTurn s) := by
  simp only [configValid, Bool.and_eq_true] at h
  simp [step, blockStep, h.1, h.2]

theorem step_badConfig {s : State} (hw : widthsFit s.cfg = true) (h : constraintsHold s.cfg = false) :
    step s = .refused .badConfig := by
  simp [step, blockStep, hw, h]

theorem step_widthMismatch {s : State} (h : widthsFit s.cfg = false) : step s = .refused .widthMismatch := by
  simp [step, blockStep, h]

/-- A step that answers a next state is one agent's step under a valid configuration. -/
theorem step_next {s t : State} (h : step s = .next t) :
    configValid s.cfg = true ∧ agentStep (dueMove s) (takeTurn s) = .next t := by
  have hv : configValid s.cfg = true := by
    cases hw : widthsFit s.cfg
    · rw [step_widthMismatch hw] at h
      cases h
    · cases hc : constraintsHold s.cfg
      · rw [step_badConfig hw hc] at h
        cases h
      · simp [configValid, hw, hc]
  exact ⟨hv, step_valid hv ▸ h⟩

theorem issuerStep_controller {s : State} (h : s.mode = .controller) : issuerStep s = ctrlStep s := by
  simp [issuerStep, h]

theorem issuerStep_harness {s : State} (h : s.mode = .harness) : issuerStep s = harnessStep s := by
  simp [issuerStep, h]

theorem ctrlStep_faulted {s : State} (h : s.fault ≠ 0) : ctrlStep s = .next s := by
  unfold ctrlStep
  exact if_pos h

/-! ### A phase's commands (R82, R83) -/

/-- A command of a phase that does not fault: the phase goes on from its result. -/
theorem issue_ok {s t u : State} {i : Instr} {next : State → StepOutcome} (h : t.fault = 0)
    (hr : commandResult i t = .ok u) : issue s i t next = next u := by
  have hu : u.fault = 0 := (commandResult_ok_fault hr).1.trans h
  unfold issue
  rw [exec_eq_perform, hr, perform_ok h]
  exact if_pos hu

/-- A command of a phase that faults: the whole phase is discarded (R135, R171). -/
theorem issue_error {s t : State} {i : Instr} {r : Raise} {next : State → StepOutcome} (h : t.fault = 0)
    (hr : commandResult i t = .error r) : issue s i t next = .next (takeFault s r) := by
  have hc := (commandResult_error hr).1
  have hf : (takeFault t r).fault = r.code ∧ (takeFault t r).finfo = r.info := by
    cases hm : t.mode
    · rw [takeFault_controller r h hm]; exact ⟨rfl, rfl⟩
    · rw [takeFault_harness r h hm]; exact ⟨rfl, rfl⟩
  unfold issue
  rw [exec_eq_perform, hr, perform_error h]
  simp only [hf.1, hf.2]
  rw [if_neg hc]

/-- A command whose rule cannot fault, issued by a phase. -/
theorem issue_rdper {s t : State} {next : State → StepOutcome} (h : t.fault = 0) :
    issue s .rdper t next = next (t.respond (zextReg t.period)) := issue_ok h rfl
theorem issue_rdcmp {s t : State} {next : State → StepOutcome} (h : t.fault = 0) :
    issue s .rdcmp t next = next (t.respond (zextReg t.compare)) := issue_ok h rfl
theorem issue_rdstop {s t : State} {next : State → StepOutcome} (h : t.fault = 0) :
    issue s .rdstop t next = next (t.respond (zextBit t.stop)) := issue_ok h rfl
theorem issue_clrstop {s t : State} {next : State → StepOutcome} (h : t.fault = 0) :
    issue s .clrstop t next = next (t.setStop false) := issue_ok h rfl
theorem issue_tglstop {s t : State} {next : State → StepOutcome} (h : t.fault = 0) :
    issue s .tglstop t next = next (t.setStop (!t.stop)) := issue_ok h rfl
theorem issue_tgldir {s t : State} {next : State → StepOutcome} (h : t.fault = 0) :
    issue s .tgldir t next = next (t.setDirl (!t.dirl)) := issue_ok h rfl

/-! ### The phases, one spec lemma each (R136 to R148) -/

theorem zextReg_toNat {v : Nat} (h : v < 4294967296) : (zextReg v).toNat = v := by
  unfold zextReg
  rw [BitVec.toNat_ofNat, Nat.mod_eq_of_lt h]

theorem compareExceeds_zext {c p : Nat} (hc : c < 4294967296) (hp : p < 4294967296) :
    compareExceeds (zextReg c) (zextReg p) = decide (c > p) := by
  simp [compareExceeds, zextReg_toNat hc, zextReg_toNat hp]

theorem fits_iff {w v : Nat} : fits w v = true ↔ v < 2 ^ w := decide_eq_true_iff

/-- A value that is at most one of a width has that width. -/
theorem fits_of_le {w u v : Nat} (h : u ≤ v) (hv : fits w v = true) : fits w u = true :=
  fits_iff.mpr (Nat.lt_of_le_of_lt h (fits_iff.mp hv))

theorem fits_zero (w : Nat) : fits w 0 = true := fits_iff.mpr (Nat.two_pow_pos w)

/-- The width invariant as its eight parts. -/
theorem widthInv_iff {s : State} : WidthInv s ↔
    fits s.cfg.counterWidth s.period = true ∧ fits s.cfg.counterWidth s.compare = true ∧
    fits s.cfg.counterWidth s.cnt = true ∧ fits s.cfg.counterWidth s.perA = true ∧
    fits s.cfg.counterWidth s.cmpA = true ∧ fits s.cfg.freqWidth s.freq = true ∧
    fits s.cfg.dutyWidth s.duty = true ∧
    ∀ e ∈ s.obslog, fits s.cfg.counterWidth e.1 = true ∧ fits s.cfg.counterWidth e.2 = true := by
  simp only [WidthInv, widthsHeld, Bool.and_eq_true, List.all_eq_true, and_assoc]

/-- The width invariant is about nine fields: two states that agree on them share it. -/
theorem widthInv_congr {s t : State} (h : WidthInv s) (h1 : t.period = s.period) (h2 : t.compare = s.compare)
    (h3 : t.cnt = s.cnt) (h4 : t.perA = s.perA) (h5 : t.cmpA = s.cmpA) (h6 : t.freq = s.freq) (h7 : t.duty = s.duty)
    (h8 : t.obslog = s.obslog) (h9 : t.cfg = s.cfg) : WidthInv t := by
  rw [widthInv_iff] at h ⊢
  rw [h1, h2, h3, h4, h5, h6, h7, h8, h9]
  exact h

/-- Within the widths of a valid configuration every register fits the word a response or an operand gives it. -/
theorem widthInv_bounds {s : State} (hv : configValid s.cfg = true) (h : WidthInv s) :
    s.period < 4294967296 ∧ s.compare < 4294967296 ∧ s.freq < 65536 ∧ s.duty < 256 := by
  obtain ⟨b1, b2, b3⟩ := configValid_bounds hv
  obtain ⟨hp, hc, _, _, _, hf, hd, _⟩ := widthInv_iff.mp h
  exact ⟨Nat.lt_of_lt_of_le (fits_iff.mp hp) b1, Nat.lt_of_lt_of_le (fits_iff.mp hc) b1,
    Nat.lt_of_lt_of_le (fits_iff.mp hf) b2, Nat.lt_of_lt_of_le (fits_iff.mp hd) b3⟩

/-- Within the widths of a valid configuration the test of the repair loop compares the registers (R143). -/
theorem compareExceeds_registers {s : State} (hv : configValid s.cfg = true) (h : WidthInv s) :
    compareExceeds (zextReg s.compare) (zextReg s.period) = decide (s.compare > s.period) :=
  compareExceeds_zext (widthInv_bounds hv h).2.1 (widthInv_bounds hv h).1

theorem phaseReport_eq {s : State} (h : s.fault = 0) :
    phaseReport s = .next
      (((s.respond (zextReg s.period)).emit [.lineCmp (zextReg s.compare), .linePer (zextReg s.period),
        .lineFreq s.freq, .lineDuty s.duty]).goto .sample) := by
  unfold phaseReport
  rw [issue_rdcmp h, issue_rdper (t := s.respond (zextReg s.compare)) h]
  rfl

theorem phaseSample_eq {s : State} (h : s.fault = 0) :
    phaseSample s = .next
      (if s.stop then (((s.respond 1).setRun .stopped).emit [.stStopped]).goto .cooldown
      else (((s.respond 0).setRun .running).emit [.stRotating]).goto .wait) := by
  unfold phaseSample
  rw [issue_rdstop h]
  cases s.stop <;> rfl

theorem phaseRestart_eq {s : State} (h : s.fault = 0) :
    phaseRestart s = .next ((((s.setStop false).setRun .running).emit [.stStarted]).goto .wait) := by
  unfold phaseRestart
  rw [issue_clrstop h]

theorem phaseRepairCheck_eq {s : State} (h : s.fault = 0) :
    phaseRepairCheck s = .next
      ((s.respond (zextReg s.period)).goto
        (if compareExceeds (zextReg s.compare) (zextReg s.period) then .repairStep else .report)) := by
  unfold phaseRepairCheck
  rw [issue_rdcmp h, issue_rdper (t := s.respond (zextReg s.compare)) h]
  show (if compareExceeds (zextReg s.compare) (zextReg s.period) then
      Host.Outcome.next ((s.respond (zextReg s.period)).goto .repairStep)
    else .next ((s.respond (zextReg s.period)).goto .report)) = _
  split <;> rfl

theorem phaseCeilStop_eq {s : State} (h : s.fault = 0) :
    phaseCeilStop s = .next
      ((((s.setStop (!s.stop)).setRun (if s.stop then .running else .stopped)).emit [.revStopped]).goto
        .ceilReset) := by
  unfold phaseCeilStop
  rw [issue_tglstop h]
  cases s.stop <;> rfl

theorem phaseCeilDir_eq {s : State} (h : s.fault = 0) :
    phaseCeilDir s = .next
      ((((s.setDirl (!s.dirl)).setDir (flipDirection s.dir)).emit [.revDir (flipDirection s.dir)]).goto
        .settle) := by
  unfold phaseCeilDir
  rw [issue_tgldir h]
  rfl

/-- The result of a phase's command: `F` applied to the command's result, or the phase discarded. -/
theorem issue_cases {s t : State} {i : Instr} {next : State → StepOutcome} (h : t.fault = 0) :
    (∃ u, commandResult i t = .ok u ∧ issue s i t next = next u) ∨
    (∃ r, commandResult i t = .error r ∧ issue s i t next = .next (takeFault s r)) := by
  cases hr : commandResult i t with
  | ok u    => exact .inl ⟨u, rfl, issue_ok h hr⟩
  | error r => exact .inr ⟨r, rfl, issue_error h hr⟩

theorem phaseBoot_cases {s : State} (h : s.fault = 0) :
    (∃ u, commandResult (baselineInit s.cfg) (((setBaseline s).setDir .forward).setRun .running) = .ok u ∧
      phaseBoot s = .next (u.goto .report)) ∨
    (∃ r, r.code ≠ 0 ∧ r.code.toNat ≤ 7 ∧ phaseBoot s = .next (takeFault s r)) := by
  rcases issue_cases (s := s) (t := ((setBaseline s).setDir .forward).setRun .running) (i := baselineInit s.cfg)
    (next := fun t => .next (t.goto .report)) h with ⟨u, hu, e⟩ | ⟨r, hr, e⟩
  · exact .inl ⟨u, hu, e⟩
  · exact .inr ⟨r, (commandResult_error hr).1, (commandResult_error hr).2, e⟩

theorem phaseCeilReset_cases {s : State} (h : s.fault = 0) :
    (∃ u, commandResult (baselineInit s.cfg) s = .ok u ∧ phaseCeilReset s = .next ((setBaseline u).goto .ceilDir)) ∨
    (∃ r, r.code ≠ 0 ∧ r.code.toNat ≤ 7 ∧ phaseCeilReset s = .next (takeFault s r)) := by
  rcases issue_cases (s := s) (t := s) (i := baselineInit s.cfg)
    (next := fun t => .next ((setBaseline t).goto .ceilDir)) h with ⟨u, hu, e⟩ | ⟨r, hr, e⟩
  · exact .inl ⟨u, hu, e⟩
  · exact .inr ⟨r, (commandResult_error hr).1, (commandResult_error hr).2, e⟩

/-- Everything `P_DECIDE` can do (R142). -/
theorem phaseDecide_cases {s : State} (h : s.fault = 0) :
    (s.cfg.fCeil ≤ s.freq ∧ phaseDecide s = .next (s.goto .ceilStop)) ∨
    (s.freq < s.cfg.fCeil ∧ ∃ p,
      s.freq + s.cfg.fStep < 2 ^ s.cfg.freqWidth ∧
      periodOf s.cfg (BitVec.ofNat 16 (s.freq + s.cfg.fStep)) = .ok p ∧
      phaseDecide s = .next
        (((installPeriod p s).setFreq (s.freq + s.cfg.fStep)).goto .repairCheck)) ∨
    (s.freq < s.cfg.fCeil ∧ ∃ r, r.code ≠ 0 ∧ r.code.toNat ≤ 7 ∧
      (2 ^ s.cfg.freqWidth ≤ s.freq + s.cfg.fStep ∧ r = fault .freqOverflow (zextReg s.freq) ∨
        s.freq + s.cfg.fStep < 2 ^ s.cfg.freqWidth ∧
          periodOf s.cfg (BitVec.ofNat 16 (s.freq + s.cfg.fStep)) = .error r) ∧
      phaseDecide s = .next (takeFault s r)) := by
  unfold phaseDecide belowCeiling
  simp only [decide_eq_true_eq]
  split
  next hc =>
    refine .inr ?_
    split
    next ho =>
      exact .inr ⟨hc, _, (fault_code_legal _ _).1, (fault_code_legal _ _).2, .inl ⟨ho, rfl⟩, rfl⟩
    next ho =>
      have ho' := Nat.lt_of_not_le ho
      rcases setfResult_cases (BitVec.ofNat 16 (s.freq + s.cfg.fStep)) s with ⟨p, hp, e⟩ | ⟨r, hr, e⟩
      · exact .inl ⟨hc, p, ho', hp, issue_ok h e⟩
      · exact .inr ⟨hc, r, (periodOf_error hr).1, (periodOf_error hr).2, .inr ⟨ho', hr⟩, issue_error h e⟩
  next hc => exact .inl ⟨Nat.le_of_not_lt hc, rfl⟩

/-- Everything `P_REPAIR_STEP` can do (R144). -/
theorem phaseRepairStep_cases {s : State} (h : s.fault = 0) :
    (s.cfg.dStep ≤ s.duty ∧ ∃ c,
      compareOf s.cfg s.period (BitVec.ofNat 8 (s.duty - s.cfg.dStep)) = .ok c ∧
      phaseRepairStep s = .next
        (((installCompare c s).setDuty (s.duty - s.cfg.dStep)).goto .repairCheck)) ∨
    (∃ r, r.code ≠ 0 ∧ r.code.toNat ≤ 7 ∧
      (s.duty < s.cfg.dStep ∧ r = fault .dutyUnderflow (zextReg s.duty) ∨
        s.cfg.dStep ≤ s.duty ∧
          compareOf s.cfg s.period (BitVec.ofNat 8 (s.duty - s.cfg.dStep)) = .error r) ∧
      phaseRepairStep s = .next (takeFault s r)) := by
  unfold phaseRepairStep
  split
  next hd => exact .inr ⟨_, (fault_code_legal _ _).1, (fault_code_legal _ _).2, .inl ⟨hd, rfl⟩, rfl⟩
  next hd =>
    have hd' := Nat.le_of_not_lt hd
    rcases setdResult_cases (BitVec.ofNat 8 (s.duty - s.cfg.dStep)) s with ⟨c, hc, e⟩ | ⟨r, hr, e⟩
    · exact .inl ⟨hd', c, hc, issue_ok h e⟩
    · exact .inr ⟨r, (compareOf_error hr).1, (compareOf_error hr).2, .inr ⟨hd', hr⟩, issue_error h e⟩

/-- Everything one CTRL step can do: the phase's own effect, or the phase discarded for a fault (R135). -/
theorem ctrlStep_phase {s : State} (h : s.fault = 0) :
    ctrlStep s =
      match s.ph with
      | .boot        => phaseBoot s
      | .report      => phaseReport s
      | .sample      => phaseSample s
      | .cooldown    => phaseCooldown s
      | .restart     => phaseRestart s
      | .wait        => phaseWait s
      | .decide      => phaseDecide s
      | .repairCheck => phaseRepairCheck s
      | .repairStep  => phaseRepairStep s
      | .ceilStop    => phaseCeilStop s
      | .ceilReset   => phaseCeilReset s
      | .ceilDir     => phaseCeilDir s
      | .settle      => phaseSettle s
      | .halted      => .next s := by
  unfold ctrlStep
  exact if_neg (not_not_intro h)

/-! ### Words and the harness (R83, R84) -/

theorem execWord_faulted {s : State} (w : Word) (h : s.fault ≠ 0) : execWord w s = .next s := by
  unfold execWord
  exact if_pos h

theorem execWord_command {s : State} {w : Word} {i : Instr} (h : s.fault = 0) (hd : decode w = .ok i) :
    execWord w s = exec i s := by
  unfold execWord
  rw [if_neg (not_not_intro h), hd]

theorem execWord_illegal {s : State} {w : Word} {e : DecodeError} (h : s.fault = 0) (hd : decode w = .error e) :
    execWord w s = .next (takeFault s (fault .illegalCmd w)) := by
  unfold execWord
  rw [if_neg (not_not_intro h), hd]

/-- Everything one harness step can do. -/
theorem harnessStep_cases (s : State) :
    ((s.fault ≠ 0 ∨ s.prog.length ≤ s.hidx) ∧ harnessStep s = .next s) ∨
    (s.fault = 0 ∧ ∃ w, s.prog[s.hidx]? = some w ∧
      ((∃ i t, decode w = .ok i ∧ exec i s = .next t ∧ harnessStep s = .next (afterWord t)) ∨
        (∃ e, decode w = .error e ∧
          harnessStep s = .next (afterWord (takeFault s (fault .illegalCmd w)))))) := by
  by_cases hf : s.fault = 0
  · cases hw : s.prog[s.hidx]? with
    | none =>
      refine .inl ⟨.inr (List.getElem?_eq_none_iff.mp hw), ?_⟩
      simp [harnessStep, harnessWord, hf, hw]
    | some w =>
      refine .inr ⟨hf, w, rfl, ?_⟩
      cases hd : decode w with
      | error e =>
        refine .inr ⟨e, rfl, ?_⟩
        simp [harnessStep, harnessWord, hf, hw, execWord_illegal hf hd]
      | ok i =>
        obtain ⟨t, ht⟩ := perform_next s (commandResult i s)
        rw [← exec_eq_perform] at ht
        refine .inl ⟨i, t, rfl, ht, ?_⟩
        simp [harnessStep, harnessWord, hf, hw, execWord_command hf hd, ht]
  · refine .inl ⟨.inl hf, ?_⟩
    unfold harnessStep harnessWord
    rw [if_neg hf]

end Sys2Proof.Machine
end

