-- ==== Sys2Proof/Laws/Effects.lean ====
section
/-! SUPPORT. Inversion: everything a command, a phase and a whole step can do, as one relation each, and the induction
that an invariant is kept, packaged once. -/

namespace Sys2Proof.Machine

/-! ### `tick`, `afterWord` and a taken fault, field by field -/

@[simp] theorem tick_period (s : State) : (tick s).period = s.period := by
  unfold tick; split <;> [skip; rfl]; split <;> [skip; rfl]; split <;> rfl
@[simp] theorem tick_compare (s : State) : (tick s).compare = s.compare := by
  unfold tick; split <;> [skip; rfl]; split <;> [skip; rfl]; split <;> rfl
@[simp] theorem tick_cen (s : State) : (tick s).cen = s.cen := by
  unfold tick; split <;> [skip; rfl]; split <;> [skip; rfl]; split <;> rfl
@[simp] theorem tick_ie (s : State) : (tick s).ie = s.ie := by
  unfold tick; split <;> [skip; rfl]; split <;> [skip; rfl]; split <;> rfl
@[simp] theorem tick_stop (s : State) : (tick s).stop = s.stop := by
  unfold tick; split <;> [skip; rfl]; split <;> [skip; rfl]; split <;> rfl
@[simp] theorem tick_dirl (s : State) : (tick s).dirl = s.dirl := by
  unfold tick; split <;> [skip; rfl]; split <;> [skip; rfl]; split <;> rfl
@[simp] theorem tick_freq (s : State) : (tick s).freq = s.freq := by
  unfold tick; split <;> [skip; rfl]; split <;> [skip; rfl]; split <;> rfl
@[simp] theorem tick_duty (s : State) : (tick s).duty = s.duty := by
  unfold tick; split <;> [skip; rfl]; split <;> [skip; rfl]; split <;> rfl
@[simp] theorem tick_dir (s : State) : (tick s).dir = s.dir := by
  unfold tick; split <;> [skip; rfl]; split <;> [skip; rfl]; split <;> rfl
@[simp] theorem tick_run (s : State) : (tick s).run = s.run := by
  unfold tick; split <;> [skip; rfl]; split <;> [skip; rfl]; split <;> rfl
@[simp] theorem tick_ph (s : State) : (tick s).ph = s.ph := by
  unfold tick; split <;> [skip; rfl]; split <;> [skip; rfl]; split <;> rfl
@[simp] theorem tick_resp (s : State) : (tick s).resp = s.resp := by
  unfold tick; split <;> [skip; rfl]; split <;> [skip; rfl]; split <;> rfl
@[simp] theorem tick_fault (s : State) : (tick s).fault = s.fault := by
  unfold tick; split <;> [skip; rfl]; split <;> [skip; rfl]; split <;> rfl
@[simp] theorem tick_finfo (s : State) : (tick s).finfo = s.finfo := by
  unfold tick; split <;> [skip; rfl]; split <;> [skip; rfl]; split <;> rfl
@[simp] theorem tick_trace (s : State) : (tick s).trace = s.trace := by
  unfold tick; split <;> [skip; rfl]; split <;> [skip; rfl]; split <;> rfl
@[simp] theorem tick_obslog (s : State) : (tick s).obslog = s.obslog := by
  unfold tick; split <;> [skip; rfl]; split <;> [skip; rfl]; split <;> rfl
@[simp] theorem tick_mode (s : State) : (tick s).mode = s.mode := by
  unfold tick; split <;> [skip; rfl]; split <;> [skip; rfl]; split <;> rfl
@[simp] theorem tick_prog (s : State) : (tick s).prog = s.prog := by
  unfold tick; split <;> [skip; rfl]; split <;> [skip; rfl]; split <;> rfl
@[simp] theorem tick_hidx (s : State) : (tick s).hidx = s.hidx := by
  unfold tick; split <;> [skip; rfl]; split <;> [skip; rfl]; split <;> rfl
@[simp] theorem tick_cfg (s : State) : (tick s).cfg = s.cfg := by
  unfold tick; split <;> [skip; rfl]; split <;> [skip; rfl]; split <;> rfl
@[simp] theorem tick_sched (s : State) : (tick s).sched = s.sched := by
  unfold tick; split <;> [skip; rfl]; split <;> [skip; rfl]; split <;> rfl
@[simp] theorem tick_turn (s : State) : (tick s).turn = s.turn := by
  unfold tick; split <;> [skip; rfl]; split <;> [skip; rfl]; split <;> rfl

theorem afterWord_cases (t : State) : afterWord t = t ∨ afterWord t = t.nextWord := by
  unfold afterWord
  split
  · exact .inr rfl
  · exact .inl rfl

theorem takeFault_records {s : State} (r : Raise) (h : s.fault = 0) :
    (takeFault s r).fault = r.code ∧ (takeFault s r).finfo = r.info := by
  cases hm : s.mode
  · rw [takeFault_controller r h hm]
    exact ⟨rfl, rfl⟩
  · rw [takeFault_harness r h hm]
    exact ⟨rfl, rfl⟩

theorem takeFault_ph_controller {s : State} (r : Raise) (h : s.mode = .controller) : (takeFault s r).ph = .halted := by
  simp [takeFault, h]

theorem takeFault_ph_harness {s : State} (r : Raise) (h : s.mode = .harness) : (takeFault s r).ph = s.ph := by
  simp only [takeFault, h]
  split <;> rfl

/-! ### Commands -/

/-- What a command that does not fault does (R94 to R98, R121 to R124). -/
inductive CommandEffect (s : State) : State → Prop where
  | initRunning (p c : Nat) : s.cen = true → p < 2 ^ s.cfg.counterWidth → c ≤ p →
      CommandEffect s { s with period := p, compare := c, ie := true, perA := activeAfter s.cfg p s.perA, cmpA := activeAfter s.cfg c s.cmpA }
  | initStopped (p c : Nat) : s.cen = false → p < 2 ^ s.cfg.counterWidth → c ≤ p →
      CommandEffect s { s with period := p, compare := c, ie := true, cen := true, cnt := 0, perA := p, cmpA := c }
  | setf (p : Nat) : p < 2 ^ s.cfg.counterWidth →
      CommandEffect s { s with period := p, perA := activeAfter s.cfg p s.perA, cmpA := activeAfter s.cfg s.compare s.cmpA }
  | setd (c : Nat) : c ≤ s.period →
      CommandEffect s { s with compare := c, perA := activeAfter s.cfg s.period s.perA, cmpA := activeAfter s.cfg c s.cmpA }
  | read (v : Word) : CommandEffect s (s.respond v)
  | stopLatch (b : Bool) : CommandEffect s (s.setStop b)
  | dirLatch : CommandEffect s (s.setDirl (!s.dirl))

/-- INIT's effect alone. -/
theorem init_effect {f : FreqWord} {d : DutyWord} {s t : State} (h : commandResult (.init f d) s = .ok t) :
    ∃ p c : Nat, p < 2 ^ s.cfg.counterWidth ∧ c ≤ p ∧
      ((s.cen = true ∧ t = { s with period := p, compare := c, ie := true, perA := activeAfter s.cfg p s.perA, cmpA := activeAfter s.cfg c s.cmpA }) ∨
       (s.cen = false ∧ t = { s with period := p, compare := c, ie := true, cen := true, cnt := 0, perA := p, cmpA := c })) := by
  rcases initResult_cases f d s with ⟨p, c, hp, hc, e⟩ | ⟨_, _, e⟩ <;> simp only [commandResult, e] at h <;> cases h
  refine ⟨p, c, (periodOf_ok hp).2.2.2, (compareOf_ok hc).2.2.2, ?_⟩
  cases hcn : s.cen
  · exact .inr ⟨rfl, by rw [installPair_stopped p c hcn]⟩
  · exact .inl ⟨rfl, by rw [installPair_running p c hcn, hcn]⟩

/-- Every command that does not fault has one of these effects. -/
theorem command_effect {i : Instr} {s t : State} (h : commandResult i s = .ok t) : CommandEffect s t := by
  cases i with
  | init f d =>
    obtain ⟨p, c, hw, hle, ⟨hc, e⟩ | ⟨hc, e⟩⟩ := init_effect h <;> rw [e]
    · exact .initRunning p c hc hw hle
    · exact .initStopped p c hc hw hle
  | setf f =>
    rcases setfResult_cases f s with ⟨p, hp, e⟩ | ⟨_, _, e⟩ <;> simp only [commandResult, e] at h <;> cases h
    rw [installPeriod_eq]
    exact .setf p (periodOf_ok hp).2.2.2
  | setd d =>
    rcases setdResult_cases d s with ⟨c, hc, e⟩ | ⟨_, _, e⟩ <;> simp only [commandResult, e] at h <;> cases h
    rw [installCompare_eq]
    exact .setd c (compareOf_ok hc).2.2.2
  | rdper => cases h; exact .read _
  | rdcmp => cases h; exact .read _
  | rdstop => cases h; exact .read _
  | clrstop => cases h; exact .stopLatch _
  | tglstop => cases h; exact .stopLatch _
  | tgldir => cases h; exact .dirLatch

/-- Everything `exec` can do. -/
theorem exec_inversion {i : Instr} {s t : State} (h : exec i s = .next t) :
    (s.fault ≠ 0 ∧ t = s) ∨ (s.fault = 0 ∧ commandResult i s = .ok t) ∨
    (s.fault = 0 ∧ ∃ e, commandResult i s = .error e ∧ t = takeFault s e) := by
  rw [exec_eq_perform] at h
  exact perform_cases h

/-! ### Phases -/

/-- What one CTRL step does on a block without a fault (R136 to R149). -/
inductive PhaseEffect (s : State) : State → Prop where
  | halted : s.ph = .halted → PhaseEffect s s
  | fault (r : Raise) : r.code ≠ 0 → r.code.toNat ≤ 7 → PhaseEffect s (takeFault s r)
  | boot (u : State) : s.ph = .boot →
      commandResult (baselineInit s.cfg) (((setBaseline s).setDir .forward).setRun .running) = .ok u →
      PhaseEffect s (u.goto .report)
  | report : s.ph = .report →
      PhaseEffect s (((s.respond (zextReg s.period)).emit [.lineCmp (zextReg s.compare),
        .linePer (zextReg s.period), .lineFreq s.freq, .lineDuty s.duty]).goto .sample)
  | sampleStopped : s.ph = .sample → s.stop = true →
      PhaseEffect s ((((s.respond 1).setRun .stopped).emit [.stStopped]).goto .cooldown)
  | sampleRunning : s.ph = .sample → s.stop = false →
      PhaseEffect s ((((s.respond 0).setRun .running).emit [.stRotating]).goto .wait)
  | cooldown : s.ph = .cooldown → PhaseEffect s ((s.waitFor .cooldown).goto .restart)
  | restart : s.ph = .restart →
      PhaseEffect s ((((s.setStop false).setRun .running).emit [.stStarted]).goto .wait)
  | wait : s.ph = .wait → PhaseEffect s ((s.waitFor .interval).goto .decide)
  | atCeiling : s.ph = .decide → s.cfg.fCeil ≤ s.freq → PhaseEffect s (s.goto .ceilStop)
  | raise (p : Nat) : s.ph = .decide → s.freq < s.cfg.fCeil → s.freq + s.cfg.fStep < 2 ^ s.cfg.freqWidth →
      p < 2 ^ s.cfg.counterWidth →
      commandResult (.setf (BitVec.ofNat 16 (s.freq + s.cfg.fStep))) s = .ok (installPeriod p s) →
      PhaseEffect s (((installPeriod p s).setFreq (s.freq + s.cfg.fStep)).goto .repairCheck)
  | repairCheck : s.ph = .repairCheck →
      PhaseEffect s ((s.respond (zextReg s.period)).goto
        (if compareExceeds (zextReg s.compare) (zextReg s.period) then .repairStep else .report))
  | repairStep (c : Nat) : s.ph = .repairStep → s.cfg.dStep ≤ s.duty → c ≤ s.period →
      commandResult (.setd (BitVec.ofNat 8 (s.duty - s.cfg.dStep))) s = .ok (installCompare c s) →
      PhaseEffect s
        (((installCompare c s).setDuty (s.duty - s.cfg.dStep)).goto .repairCheck)
  | ceilStop : s.ph = .ceilStop →
      PhaseEffect s ((((s.setStop (!s.stop)).setRun (if s.stop then .running else .stopped)).emit [.revStopped]).goto
        .ceilReset)
  | ceilReset (u : State) : s.ph = .ceilReset → commandResult (baselineInit s.cfg) s = .ok u →
      PhaseEffect s ((setBaseline u).goto .ceilDir)
  | ceilDir : s.ph = .ceilDir →
      PhaseEffect s ((((s.setDirl (!s.dirl)).setDir (flipDirection s.dir)).emit
        [.revDir (flipDirection s.dir)]).goto .settle)
  | settle : s.ph = .settle → PhaseEffect s ((s.waitFor .settle).goto .report)

/-- Every CTRL step on a block without a fault has one of these effects. -/
theorem phase_effect {s t : State} (hf : s.fault = 0) (h : ctrlStep s = .next t) : PhaseEffect s t := by
  rw [ctrlStep_phase hf] at h
  cases hp : s.ph <;> simp only [hp] at h
  case boot =>
    rcases phaseBoot_cases hf with ⟨_, hu, e⟩ | ⟨_, a, b, e⟩ <;> rw [e] at h <;> cases h
    · exact .boot _ hp hu
    · exact .fault _ a b
  case report => rw [phaseReport_eq hf] at h; cases h; exact .report hp
  case sample =>
    rw [phaseSample_eq hf] at h
    cases h
    cases hs : s.stop
    · exact .sampleRunning hp hs
    · exact .sampleStopped hp hs
  case cooldown => cases h; exact .cooldown hp
  case restart => rw [phaseRestart_eq hf] at h; cases h; exact .restart hp
  case wait => cases h; exact .wait hp
  case decide =>
    rcases phaseDecide_cases hf with ⟨hc, e⟩ | ⟨hc, p, hn, hq, e⟩ | ⟨_, _, a, b, _, e⟩ <;> rw [e] at h <;> cases h
    · exact .atCeiling hp hc
    · exact .raise p hp hc hn (periodOf_ok hq).2.2.2 (by simp only [commandResult, setfResult, hq])
    · exact .fault _ a b
  case repairCheck => rw [phaseRepairCheck_eq hf] at h; cases h; exact .repairCheck hp
  case repairStep =>
    rcases phaseRepairStep_cases hf with ⟨hd, _, hc, e⟩ | ⟨_, a, b, _, e⟩ <;> rw [e] at h <;> cases h
    · exact .repairStep _ hp hd (compareOf_ok hc).2.2.2 (by simp only [commandResult, setdResult, hc])
    · exact .fault _ a b
  case ceilStop => rw [phaseCeilStop_eq hf] at h; cases h; exact .ceilStop hp
  case ceilReset =>
    rcases phaseCeilReset_cases hf with ⟨_, hu, e⟩ | ⟨_, a, b, e⟩ <;> rw [e] at h <;> cases h
    · exact .ceilReset _ hp hu
    · exact .fault _ a b
  case ceilDir => rw [phaseCeilDir_eq hf] at h; cases h; exact .ceilDir hp
  case settle => cases h; exact .settle hp
  case halted => cases h; exact .halted hp

/-! ### Steps -/

/-- What one step of the block does: one agent's effect on the state whose turn has been taken. -/
inductive StepEffect (s : State) : State → Prop where
  | controllerStopped : dueMove s = .issuer → s.mode = .controller → s.fault ≠ 0 → StepEffect s (takeTurn s)
  | controller (t : State) : dueMove s = .issuer → s.mode = .controller → s.fault = 0 →
      PhaseEffect (takeTurn s) t → StepEffect s t
  | harnessStopped : dueMove s = .issuer → s.mode = .harness → s.fault ≠ 0 ∨ s.prog.length ≤ s.hidx →
      StepEffect s (takeTurn s)
  | harnessCommand (w : Word) (i : Instr) (t : State) : dueMove s = .issuer → s.mode = .harness → s.fault = 0 →
      s.prog[s.hidx]? = some w → decode w = .ok i → exec i (takeTurn s) = .next t → StepEffect s (afterWord t)
  | harnessIllegal (w : Word) (e : DecodeError) : dueMove s = .issuer → s.mode = .harness → s.fault = 0 →
      s.prog[s.hidx]? = some w → decode w = .error e →
      StepEffect s (afterWord (takeFault (takeTurn s) (fault .illegalCmd w)))
  | tick : dueMove s = .tick → StepEffect s (tick (takeTurn s))
  | extAssert : dueMove s = .extAssert → StepEffect s ((takeTurn s).setStop true)
  | extDeassert : dueMove s = .extDeassert → StepEffect s (extDeassert (takeTurn s))
  | observe : dueMove s = .observe → StepEffect s (obsRead (takeTurn s))
  | hostReset : dueMove s = .hostReset → StepEffect s (hostReset (takeTurn s))

/-- Every step that answers a next state has one of these effects, and its configuration is valid. -/
theorem step_effect {s t : State} (h : step s = .next t) : configValid s.cfg = true ∧ StepEffect s t := by
  obtain ⟨hv, h⟩ := step_next h
  refine ⟨hv, ?_⟩
  cases hd : dueMove s <;> simp only [hd, agentStep] at h
  case issuer =>
    cases hm : s.mode
    · rw [issuerStep_controller (by simpa using hm)] at h
      by_cases hf : s.fault = 0
      · exact .controller t hd hm hf (phase_effect (by simpa using hf) h)
      · rw [ctrlStep_faulted (by simpa using hf)] at h
        cases h
        exact .controllerStopped hd hm hf
    · rw [issuerStep_harness (by simpa using hm)] at h
      rcases harnessStep_cases (takeTurn s) with ⟨ho, e⟩ | ⟨hf, w, hw, ⟨i, u, h1, h2, e⟩ | ⟨e', h1, e⟩⟩ <;>
        rw [e] at h <;> cases h
      · exact .harnessStopped hd hm (by simpa using ho)
      · exact .harnessCommand w i u hd hm (by simpa using hf) (by simpa using hw) h1 h2
      · exact .harnessIllegal w e' hd hm (by simpa using hf) (by simpa using hw) h1
  case tick => cases h; exact .tick hd
  case extAssert => cases h; exact .extAssert hd
  case extDeassert => cases h; exact .extDeassert hd
  case observe => cases h; exact .observe hd
  case hostReset => cases h; exact .hostReset hd

/-! ### Invariants -/

/-- A property is kept by every step if it is kept by taking a turn, by the harness's index moving on, by every effect
of a command and of a phase, by taking a fault, by the counter, EXT and OBS, and holds after reset. -/
theorem kept_by_steps {P : State → Prop} (hturn : ∀ s, P s → P (takeTurn s)) (hword : ∀ s, P s → P s.nextWord)
    (hcommand : ∀ s t, s.mode = .harness → s.fault = 0 → P s → CommandEffect s t → P t)
    (hphase : ∀ s t, configValid s.cfg = true → s.mode = .controller → s.fault = 0 → P s → PhaseEffect s t → P t)
    (hfault : ∀ s r, s.mode = .harness → s.fault = 0 → P s → r.code ≠ 0 → r.code.toNat ≤ 7 → P (takeFault s r))
    (htick : ∀ s, P s → P (tick s)) (hstop : ∀ s b, P s → P (s.setStop b)) (hobs : ∀ s, P s → P s.observePair)
    (hreset : ∀ s, configValid s.cfg = true → P (hostReset s)) {s t : State} (hs : P s) (h : step s = .next t) :
    P t := by
  obtain ⟨hv, h⟩ := step_effect h
  have hs' := hturn s hs
  have hafter : ∀ u, P u → P (afterWord u) := fun u hu => by
    rcases afterWord_cases u with e | e <;> rw [e]
    · exact hu
    · exact hword u hu
  cases h with
  | controllerStopped => exact hs'
  | controller _ _ hm hf he =>
    exact hphase _ _ (by simpa using hv) (by simpa using hm) (by simpa using hf) hs' he
  | harnessStopped => exact hs'
  | harnessCommand w i u _ hm hf _ _ hx =>
    apply hafter
    rcases exec_inversion hx with ⟨_, e⟩ | ⟨_, hr⟩ | ⟨hf', e, hr, ht⟩
    · exact e ▸ hs'
    · exact hcommand _ _ (by simpa using hm) (by simpa using hf) hs' (command_effect hr)
    · exact ht ▸ hfault _ _ (by simpa using hm) hf' hs' (commandResult_error hr).1 (commandResult_error hr).2
  | harnessIllegal w _ _ hm hf =>
    exact hafter _ (hfault _ _ (by simpa using hm) (by simpa using hf) hs' (fault_code_legal _ _).1
      (fault_code_legal _ _).2)
  | tick => exact htick _ hs'
  | extAssert => exact hstop _ _ hs'
  | extDeassert =>
    unfold extDeassert
    split
    · exact hstop _ _ hs'
    · exact hs'
  | observe =>
    unfold obsRead
    split
    · exact hobs _ hs'
    · exact hs'
  | hostReset => exact hreset _ (by simpa using hv)

end Sys2Proof.Machine
end

