-- ==== Sys2Proof/Laws/Encoding.lean ====
section
/-! SUPPORT. The fields of an encoded word, and a word as its fields (30_encoding.md R71, R78). -/

namespace Sys2Proof

@[simp] theorem opField_packWord (op : BitVec 4) (d : DutyWord) (f : FreqWord) : opField (packWord op d f) = op := by
  apply BitVec.eq_of_getLsbD_eq
  intro i hi
  simp only [opField, packWord, BitVec.getLsbD_extractLsb', BitVec.getLsbD_or, BitVec.getLsbD_shiftLeft,
    BitVec.getLsbD_setWidth, hi]
  rw [BitVec.getLsbD_of_ge d _ (by omega), BitVec.getLsbD_of_ge f _ (by omega)]
  have h1 : 28 + i < 32 := by omega
  have h2 : i < 32 := by omega
  simp [h1, h2]

@[simp] theorem rsvField_packWord (op : BitVec 4) (d : DutyWord) (f : FreqWord) : rsvField (packWord op d f) = 0 := by
  apply BitVec.eq_of_getLsbD_eq
  intro i hi
  simp only [rsvField, packWord, BitVec.getLsbD_extractLsb', BitVec.getLsbD_or, BitVec.getLsbD_shiftLeft,
    BitVec.getLsbD_setWidth, hi]
  rw [BitVec.getLsbD_of_ge d _ (by omega), BitVec.getLsbD_of_ge f _ (by omega)]
  have h1 : 24 + i < 28 := by omega
  simp [h1]

@[simp] theorem dutyField_packWord (op : BitVec 4) (d : DutyWord) (f : FreqWord) :
    dutyField (packWord op d f) = d := by
  apply BitVec.eq_of_getLsbD_eq
  intro i hi
  simp only [dutyField, packWord, BitVec.getLsbD_extractLsb', BitVec.getLsbD_or, BitVec.getLsbD_shiftLeft,
    BitVec.getLsbD_setWidth, hi]
  rw [BitVec.getLsbD_of_ge f _ (by omega)]
  have h1 : 16 + i < 28 := by omega
  have h2 : 16 + i < 32 := by omega
  have h3 : i < 32 := by omega
  simp [h1, h2, h3]

@[simp] theorem freqField_packWord (op : BitVec 4) (d : DutyWord) (f : FreqWord) :
    freqField (packWord op d f) = f := by
  apply BitVec.eq_of_getLsbD_eq
  intro i hi
  simp only [freqField, packWord, BitVec.getLsbD_extractLsb', BitVec.getLsbD_or, BitVec.getLsbD_shiftLeft,
    BitVec.getLsbD_setWidth, hi]
  have h1 : i < 28 := by omega
  have h2 : i < 32 := by omega
  simp [h1, h2, hi]

/-- A word whose reserved bits are 0 is its three fields packed. -/
theorem packWord_fields {w : Word} (h : rsvField w = 0) : packWord (opField w) (dutyField w) (freqField w) = w := by
  apply BitVec.eq_of_getLsbD_eq
  intro i hi
  simp only [packWord, opField, dutyField, freqField, BitVec.getLsbD_extractLsb', BitVec.getLsbD_or,
    BitVec.getLsbD_shiftLeft, BitVec.getLsbD_setWidth]
  by_cases h1 : i < 16
  · have a : i < 28 := by omega
    simp [h1, a, hi]
  · by_cases h2 : i < 24
    · have a : i < 28 := by omega
      have b : i - 16 < 8 := by omega
      have c : i - 16 < 32 := by omega
      have e : 16 + (i - 16) = i := by omega
      simp [h1, a, b, c, e, hi]
    · by_cases h3 : i < 28
      · have b : ¬ i - 16 < 8 := by omega
        have hr : (rsvField w).getLsbD (i - 24) = false := by rw [h]; simp
        have c : i - 24 < 4 := by omega
        have e : 24 + (i - 24) = i := by omega
        simp only [rsvField, BitVec.getLsbD_extractLsb', c, e, decide_true, Bool.true_and] at hr
        simp [h1, b, h3, hr]
      · have b : ¬ i - 16 < 8 := by omega
        have c : i - 28 < 4 := by omega
        have d : i - 28 < 32 := by omega
        have e : 28 + (i - 28) = i := by omega
        simp [h1, b, h3, c, d, e, hi]

/-- The words without operands, as packed fields. -/
theorem encode_rdper : encode .rdper = packWord 4 0 0 := by decide
theorem encode_rdcmp : encode .rdcmp = packWord 5 0 0 := by decide
theorem encode_rdstop : encode .rdstop = packWord 6 0 0 := by decide
theorem encode_clrstop : encode .clrstop = packWord 7 0 0 := by decide
theorem encode_tglstop : encode .tglstop = packWord 8 0 0 := by decide
theorem encode_tgldir : encode .tgldir = packWord 9 0 0 := by decide

end Sys2Proof
end

