-- ==== Sys2Proof/Laws/PerInstr.lean ====
section
/-! SUPPORT. The encoding of every command agrees with its row of spec/opcode_table.json, command by command. -/

namespace Sys2Proof.Laws.TableRow

/-- R74: the word of a command is accepted by its row of the opcode table, and its reserved bits are 0 (R75). -/
def Statement (i : Instr) : Prop := i.tableRow.accepts (encode i) = true ∧ rsvField (encode i) = 0

theorem init (f : FreqWord) (d : DutyWord) : Statement (.init f d) := by
  refine ⟨?_, rsvField_packWord _ _ _⟩
  simp only [TableRow.accepts, Instr.tableRow, encode, beq_iff_eq]
  apply BitVec.eq_of_getLsbD_eq
  intro i hi
  interval_cases i <;> simp [packWord, BitVec.getLsbD_of_ge]

theorem setf (f : FreqWord) : Statement (.setf f) := by
  refine ⟨?_, rsvField_packWord _ _ _⟩
  simp only [TableRow.accepts, Instr.tableRow, encode, beq_iff_eq]
  apply BitVec.eq_of_getLsbD_eq
  intro i hi
  interval_cases i <;> simp [packWord, BitVec.getLsbD_of_ge]

theorem setd (d : DutyWord) : Statement (.setd d) := by
  refine ⟨?_, rsvField_packWord _ _ _⟩
  simp only [TableRow.accepts, Instr.tableRow, encode, beq_iff_eq]
  apply BitVec.eq_of_getLsbD_eq
  intro i hi
  interval_cases i <;> simp [packWord, BitVec.getLsbD_of_ge]

theorem rdper : Statement .rdper := by constructor <;> decide
theorem rdcmp : Statement .rdcmp := by constructor <;> decide
theorem rdstop : Statement .rdstop := by constructor <;> decide
theorem clrstop : Statement .clrstop := by constructor <;> decide
theorem tglstop : Statement .tglstop := by constructor <;> decide
theorem tgldir : Statement .tgldir := by constructor <;> decide

end Sys2Proof.Laws.TableRow
end

