-- ==== Sys2Proof/Machine/Asm.lean ====
section
/-! DEFINITION. The assembler of 30_encoding.md R80, over lists of characters: one command per line, operands separated
by a comma, `;` starts a comment, mnemonics case-insensitive. -/

namespace Sys2Proof.Machine

/-- Why a line is no command (R80). -/
inductive AsmError where
  | unknownMnemonic
  | badOperands
  | operandRange
  deriving DecidableEq, Repr

/-- A blank between tokens. -/
def isBlank (c : Char) : Bool := c == ' ' || c == '\t' || c == '\r'

/-- A text without its outer blanks. -/
def trimBlanks (cs : List Char) : List Char :=
  ((cs.dropWhile isBlank).reverse.dropWhile isBlank).reverse

/-- The pieces of a text between the characters `sep`. -/
def splitAt (sep : Char) : List Char → List (List Char)
  | [] => [[]]
  | c :: cs =>
    match splitAt sep cs with
    | []          => [[c]]
    | piece :: ps => if c == sep then [] :: piece :: ps else (c :: piece) :: ps

/-- The value of a digit in a base up to 16. -/
def digitValue (base : Nat) (c : Char) : Option Nat :=
  let n := c.toNat
  let v :=
    if 48 ≤ n ∧ n ≤ 57 then n - 48
    else if 97 ≤ n ∧ n ≤ 102 then n - 87
    else if 65 ≤ n ∧ n ≤ 70 then n - 55
    else base
  if v < base then some v else none

/-- The digits after `acc`. -/
def digitsValue (base : Nat) : Nat → List Char → Option Nat
  | acc, [] => some acc
  | acc, c :: cs =>
    match digitValue base c with
    | some v => digitsValue base (acc * base + v) cs
    | none   => none

/-- An operand: decimal, or hexadecimal with a `0x` prefix (R80). -/
def parseNumber : List Char → Option Nat
  | []                    => none
  | '0' :: 'x' :: c :: cs => digitsValue 16 0 (c :: cs)
  | c :: cs               => digitsValue 10 0 (c :: cs)

/-- A list of operands. -/
def parseNumbers : List (List Char) → Option (List Nat)
  | [] => some []
  | t :: ts =>
    match parseNumber (trimBlanks t), parseNumbers ts with
    | some n, some ns => some (n :: ns)
    | _, _            => none

/-- The operand part of a line: nothing, or numbers between commas. -/
def parseOperands (cs : List Char) : Option (List Nat) :=
  if trimBlanks cs = [] then some [] else parseNumbers (splitAt ',' cs)

/-- A command without operands. -/
def nullary (c : Source) : List Nat → Except AsmError Source
  | []     => .ok c
  | _ :: _ => .error .badOperands

/-- A command with one operand. -/
def unary (c : Nat → Source) : List Nat → Except AsmError Source
  | [a] => .ok (c a)
  | []  => .error .badOperands
  | _ :: _ :: _ => .error .badOperands

/-- A command with two operands. -/
def binary (c : Nat → Nat → Source) : List Nat → Except AsmError Source
  | [a, b] => .ok (c a b)
  | []  => .error .badOperands
  | [_] => .error .badOperands
  | _ :: _ :: _ :: _ => .error .badOperands

/-- The operand shape of each mnemonic (R80), the mnemonic in capitals. -/
def mnemonicShape (m : List Char) : Option (List Nat → Except AsmError Source) :=
  if m = ['I','N','I','T'] then some (binary .init)
  else if m = ['S','E','T','F'] then some (unary .setf)
  else if m = ['S','E','T','D'] then some (unary .setd)
  else if m = ['R','D','P','E','R'] then some (nullary .rdper)
  else if m = ['R','D','C','M','P'] then some (nullary .rdcmp)
  else if m = ['R','D','S','T','O','P'] then some (nullary .rdstop)
  else if m = ['C','L','R','S','T','O','P'] then some (nullary .clrstop)
  else if m = ['T','G','L','S','T','O','P'] then some (nullary .tglstop)
  else if m = ['T','G','L','D','I','R'] then some (nullary .tgldir)
  else none

/-- The source command of a text without comment: its mnemonic, then its operands. -/
def parseCommand (cs : List Char) : Except AsmError Source :=
  let word := cs.takeWhile (fun c => !isBlank c)
  let rest := cs.dropWhile (fun c => !isBlank c)
  match mnemonicShape (word.map Char.toUpper) with
  | none => .error .unknownMnemonic
  | some shape =>
    match parseOperands rest with
    | none    => .error .badOperands
    | some ns => shape ns

/-- One line (R80): none if it holds no command; an operand outside its field is an error. -/
def assembleLine (line : List Char) : Except AsmError (Option Instr) :=
  let text := trimBlanks (line.takeWhile (fun c => c != ';'))
  if text = [] then .ok none
  else
    match parseCommand text with
    | .error e => .error e
    | .ok c =>
      match c.toInstr with
      | some i => .ok (some i)
      | none   => .error .operandRange

/-- The words of some lines, in order, or the first error. -/
def assembleLines : List (List Char) → Except AsmError (List Word)
  | [] => .ok []
  | l :: ls =>
    match assembleLine l, assembleLines ls with
    | .ok (some i), .ok ws => .ok (encode i :: ws)
    | .ok none, .ok ws     => .ok ws
    | .error e, _          => .error e
    | .ok _, .error e      => .error e

/-- The words of a program text, one command per line (R80). -/
def assemble (program : List Char) : Except AsmError (List Word) := assembleLines (splitAt '\n' program)

end Sys2Proof.Machine
end

