-- ==== Sys2Proof/Tests/Slice0.lean ====
section
/-! SUPPORT. The model's own tests: the checks of a source command, words written out from 30_encoding.md, one-step
vectors of 95_test_vectors.md, and a witness for every statement that has hypotheses. -/

namespace Sys2Proof.Tests

open Sys2Proof.Machine

/-! ## Small states -/

/-- The state a step or a command answers, if it answers one. -/
def after (o : StepOutcome) : Option State :=
  match o with
  | .next t    => some t
  | .fault _   => none
  | .refused _ => none

/-- A field of the state a step or a command answers. -/
def see {α : Type} (o : StepOutcome) (f : State → α) : Option α := (after o).map f

/-- The state after `INIT 500, 90` from reset (V4 row 1). -/
def inited : State :=
  { State.reset with period := 3999, compare := 3599, cen := true, perA := 3999, cmpA := 3599, ie := true }

/-- A state in which the given move is due. -/
def due (m : Move) (s : State) : State := { s with sched := [m] }

/-- CTRL's turn in a phase, after `INIT 500, 90`. -/
def ctrlAt (p : Phase) : State := due .issuer { inited with ph := p }

/-- This hardware with `UPDATE_LATCH = IMMEDIATE`. -/
def immediateHw : Config := { Config.hw with updateLatch := .immediate }

/-! ## WellFormed (R80) -/

theorem test_wf_accepts : (Source.init 65535 255).wellFormed = true ∧ (Source.setf 65535).wellFormed = true ∧
    (Source.setd 255).wellFormed = true ∧ Source.tgldir.wellFormed = true := by decide
theorem test_wf_init_freq_refused : (Source.init 65536 0).toInstr = none := by decide
theorem test_wf_init_duty_refused : (Source.init 0 256).toInstr = none := by decide
theorem test_wf_setf_refused : (Source.setf 65536).toInstr = none := by decide
theorem test_wf_setd_refused : (Source.setd 256).toInstr = none := by decide

/-! ## Decoding: words written out bit by bit as OP, RSV, D, F (R71), V1 -/

theorem test_decode_init : decode 0b0001_0000_01011010_0000000111110100 = .ok (.init 500 90) := by decide
theorem test_decode_init_ends : decode 0b0001_0000_11001000_0000000000000000 = .ok (.init 0 200) ∧
    decode 0b0001_0000_00000000_1111111111111111 = .ok (.init 65535 0) := by decide
theorem test_decode_setf : decode 0b0010_0000_00000000_0000001001011000 = .ok (.setf 600) := by decide
theorem test_decode_setd : decode 0b0011_0000_01011000_0000000000000000 = .ok (.setd 88) := by decide
theorem test_decode_rdper : decode 0b0100_0000_00000000_0000000000000000 = .ok .rdper := by decide
theorem test_decode_rdcmp : decode 0b0101_0000_00000000_0000000000000000 = .ok .rdcmp := by decide
theorem test_decode_rdstop : decode 0b0110_0000_00000000_0000000000000000 = .ok .rdstop := by decide
theorem test_decode_clrstop : decode 0b0111_0000_00000000_0000000000000000 = .ok .clrstop := by decide
theorem test_decode_tglstop : decode 0b1000_0000_00000000_0000000000000000 = .ok .tglstop := by decide
theorem test_decode_tgldir : decode 0b1001_0000_00000000_0000000000000000 = .ok .tgldir := by decide
theorem test_decode_illegal : decode 0x00000000 = .error .reservedOpcode ∧ decode 0xA0000000 = .error .reservedOpcode ∧
    decode 0xF0000000 = .error .reservedOpcode ∧ decode 0x21000258 = .error .reservedBits ∧
    decode 0x20010258 = .error .unusedField ∧ decode 0x30580001 = .error .unusedField ∧
    decode 0x40000001 = .error .unusedField ∧ decode 0x90010000 = .error .unusedField := by decide
theorem test_encode : encode (.init 3000 76) = 0x104C0BB8 ∧ encode (.setf 30) = 0x2000001E ∧
    encode (.setd 50) = 0x30320000 := by decide
/-- R53: `0x105A01F4` is sent as `F4 01 5A 10`. -/
theorem test_transport : decodeBytes [0xF4, 0x01, 0x5A, 0x10, 0xFF] = .ok (.init 500 90, [0xFF]) ∧
    decodeBytes [0xF4, 0x01, 0x5A] = .error .tooShort := by decide
theorem test_decodeTableWord : decodeTableWord 32 0x10000000 = some (.init 0 0) ∧
    decodeTableWord 32 0x0A000000 = none := by decide

/-! ## The assembler (R80) -/

theorem test_asm_init : assemble ['I','N','I','T',' ','5','0','0',',',' ','9','0',' ',';','x'] = .ok [0x105A01F4] := by
  decide
theorem test_asm_lines : assemble ['s','e','t','f',' ','0','x','2','5','8','\n',';','\n','R','D','P','E','R'] =
    .ok [0x20000258, 0x40000000] := by decide
theorem test_asm_errors : assembleLine ['S','E','T','D',' ','2','5','6'] = .error .operandRange ∧
    assembleLine ['S','E','T','F'] = .error .badOperands ∧ assembleLine ['N','O','P'] = .error .unknownMnemonic := by
  decide

/-! ## The arithmetic, V2 and V3 -/

theorem test_periodOf : periodOf Config.hw 31 = .ok 64515 ∧ periodOf Config.hw 500 = .ok 3999 ∧
    periodOf Config.hw 65535 = .ok 29 ∧ periodOf Config.hw 30 = .error ⟨3, 30⟩ ∧
    periodOf Config.hw 0 = .error ⟨2, 0⟩ := by decide
theorem test_compareOf : compareOf Config.hw 3332 88 = .ok 2932 ∧ compareOf Config.hw 65535 99 = .ok 64879 ∧
    compareOf Config.hw 65535 100 = .ok 65535 ∧ compareOf Config.hw 1 1 = .ok 0 ∧
    compareOf Config.hw 3999 101 = .error ⟨4, 101⟩ := by decide

/-! ## The commands, V4 and V5 -/

theorem test_init_starts : (see (exec (.init 500 90) State.reset) fun t =>
    (t.period, t.compare, t.cen, t.ie)) = some (3999, 3599, true, true) ∧
    (see (exec (.init 500 90) { State.reset with cnt := 7 }) fun t => (t.cnt, t.perA, t.cmpA)) =
      some (0, 3999, 3599) := by decide
theorem test_init_no_restart : (see (exec (.init 3000 76) { inited with cnt := 5 }) fun t =>
    (t.period, t.compare, t.cnt, t.perA, t.cmpA)) = some (665, 505, 5, 3999, 3599) := by decide
theorem test_setf : (see (exec (.setf 600) inited) fun t =>
    (t.period, t.compare, t.perA, t.ie)) = some (3332, 3599, 3999, true) := by decide
theorem test_setf_immediate : (see (exec (.setf 600) { inited with cfg := immediateHw }) fun t =>
    (t.period, t.perA, t.cmpA)) = some (3332, 3332, 3599) := by decide
theorem test_setd : (see (exec (.setd 50) { State.reset with period := 3332 }) fun t =>
    (t.compare, t.cen, t.ie)) = some (1666, false, false) := by decide
theorem test_setd_fault : (see (exec (.setd 101) inited) fun t =>
    (t.fault, t.finfo, t.compare, t.ie)) = some (4, 101, 3599, true) := by decide
theorem test_rdper : (see (exec .rdper inited) fun t => t.resp) = some 3999 := by decide
theorem test_rdcmp : (see (exec .rdcmp inited) fun t => t.resp) = some 3599 := by decide
theorem test_rdstop : (see (exec .rdstop { inited with stop := true }) fun t => (t.resp, t.stop)) = some (1, true) := by
  decide
theorem test_clrstop : (see (exec .clrstop { inited with stop := true }) fun t => t.stop) = some false := by decide
theorem test_tglstop : (see (exec .tglstop inited) fun t => t.stop) = some true ∧
    (see (exec .tglstop { inited with stop := true }) fun t => t.stop) = some false := by decide
theorem test_tgldir : (see (exec .tgldir State.reset) fun t => (t.dirl, t.dir)) = some (true, .forward) := by decide
/-- V4 row 12: `FREQ_ZERO` comes before `DUTY_RANGE`. -/
theorem test_fault_priority : (see (exec (.init 0 200) State.reset) fun t =>
    (t.fault, t.finfo, t.period, t.ie)) = some (2, 0, 0, false) := by decide

/-! ## The step -/

theorem test_step_runs_placed_word : (see (step (State.reset.withFetchWord 32 0x105A01F4)) fun t =>
    (t.period, t.compare, t.hidx, t.fault)) = some (3999, 3599, 1, 0) := by decide
theorem test_step_illegal_word : (see (step (State.reset.withFetchWord 32 0x21000258)) fun t =>
    (t.fault, t.finfo, t.hidx)) = some (1, 0x21000258, 0) := by decide

/-! ## The counter, EXT, OBS, the pins and reset: V6, V8, V9 -/

/-- V6 row 1: `PER_A = 29`, `CMP_A = 14`. -/
def shortCycle : State := { inited with period := 29, compare := 14, perA := 29, cmpA := 14 }

theorem test_tick_wraps : ((tick { shortCycle with cnt := 28 }).cnt, (tick { shortCycle with cnt := 29 }).cnt,
    (tick { shortCycle with cnt := 29, period := 31 }).perA) = (29, 0, 31) := by decide
theorem test_pwm_edges : (pwmOut { shortCycle with cnt := 13 }, pwmOut { shortCycle with cnt := 14 },
    pwmOut { shortCycle with cfg := { Config.hw with compareEdge := .le }, cnt := 14 }, pwmOut State.reset) =
    (true, false, true, false) := by decide
/-- V6 row 7: the active copy fell below the count under `IMMEDIATE`. -/
theorem test_tick_below_count : (tick { shortCycle with cfg := immediateHw, cnt := 30 }).cnt = 0 := by decide
theorem test_ext : (extAssert State.reset).stop = true ∧ (extDeassert { State.reset with stop := true }).stop = true := by
  decide
theorem test_obs : (obsRead State.reset).obslog = [] ∧ (obsRead inited).obslog = [(3999, 3599)] := by decide
theorem test_host_reset : (hostReset { inited with fault := 4, finfo := 101, ph := .halted }).fault = 0 ∧
    (hostReset inited).period = 0 ∧ (hostReset inited).freq = 500 := by decide
theorem test_regRead : regRead inited 0 = 3999 ∧ regRead inited 1 = 3599 ∧
    regRead { inited with dirl := true } 3 = 1 := by decide

/-! ## The controller, V7 -/

theorem test_boot : (see (step (due .issuer State.reset)) fun t => (t.period, t.compare, t.ie, t.ph, t.trace)) =
    some (3999, 3599, true, .report, []) := by decide
theorem test_report : (see (step (ctrlAt .report)) fun t => (t.trace, t.resp, t.ph)) =
    some ([.lineCmp 3599, .linePer 3999, .lineFreq 500, .lineDuty 90], 3999, .sample) := by decide
theorem test_decide : (see (step (ctrlAt .decide)) fun t => (t.freq, t.period, t.ph)) =
    some (600, 3332, .repairCheck) := by decide
theorem test_repair_equal : (see (step { ctrlAt .repairCheck with period := 3332, compare := 3332 }) fun t => t.ph) =
    some .report := by decide
theorem test_repair_step : (see (step { ctrlAt .repairStep with period := 3332 }) fun t => (t.duty, t.compare, t.ph)) =
    some (88, 2932, .repairCheck) := by decide
/-- V7 row 17: an inversion, as written. -/
theorem test_ceil_stop : (see (step { ctrlAt .ceilStop with stop := true }) fun t => (t.stop, t.run, t.trace)) =
    some (false, .running, [.revStopped]) := by decide
theorem test_ceil_dir : (see (step (ctrlAt .ceilDir)) fun t => (t.dir, t.dirl, t.trace)) =
    some (.reverse, true, [.revDir .reverse]) := by decide
/-- V7 row 15. -/
theorem test_freq_overflow : (see (step { ctrlAt .decide with
    freq := 65500, cfg := { Config.hw with fCeil := 65535 } }) fun t => (t.fault, t.finfo, t.ph)) =
    some (6, 65500, .halted) := by decide

/-! ## Witnesses: for every statement with hypotheses, a state and operands that meet them all -/

theorem test_witness_EncodeOfDecode : decode 0x105A01F4 = .ok (.init 500 90) := by decide

theorem test_witness_IllegalWord : State.reset.fault = 0 ∧ rsvField 0x21000258 ≠ 0 ∧ rsvField 0x1F000000 ≠ 0 ∧
    (opField 0x20010258 = 2 ∧ dutyField 0x20010258 ≠ 0) ∧ (opField 0x30580001 = 3 ∧ freqField 0x30580001 ≠ 0) ∧
    (opField 0x40000001 = 4 ∧ freqField 0x40000001 ≠ 0) ∧ (opField 0x90010000 = 9 ∧ dutyField 0x90010000 ≠ 0) ∧
    opField 0 = 0 ∧ opField 0xA0000000 = 10 ∧ opField 0xF0000000 = 15 := by decide

theorem test_witness_StepRunsDecodedCommand : HarnessTurn (harnessRun [0x105A01F4] [.issuer]) ∧
    (harnessRun [0x105A01F4] [.issuer]).prog[0]? = some 0x105A01F4 ∧ decode 0x105A01F4 = .ok (.init 500 90) := by decide

theorem test_witness_HarnessStops : (HarnessTurn (harnessRun [0x21000258] [.issuer]) ∧
      decode 0x21000258 = .error .reservedBits) ∧
    (HarnessTurn (harnessRun [] [.issuer]) ∧ (harnessRun [] [.issuer]).prog.length ≤ 0) ∧
    ({ harnessRun [0] [.issuer] with fault := 1 } : State).fault ≠ 0 := by decide

theorem test_witness_ConfigRefused : configValid State.reset.cfg = true ∧
    (widthsFit { Config.hw with prescaler := 0 } = true ∧
      constraintsHold { Config.hw with prescaler := 0 } = false) ∧
    constraintsHold { Config.hw with fBase := 30 } = false ∧ constraintsHold { Config.hw with counterWidth := 11 } = false ∧
    widthsFit { Config.hw with counterWidth := 33 } = false ∧ widthsFit { Config.hw with freqWidth := 17 } = false ∧
    widthsFit { Config.hw with dutyWidth := 9 } = false ∧ widthsFit { Config.hw with dutyWidth := 6 } = false := by
  decide

/-- A narrower block: the widths are parameters. `PeriodOf(500) = 3999` fits 12 bits, and 90 fits 7. -/
theorem test_narrow_widths_valid :
    configValid { Config.hw with counterWidth := 12, freqWidth := 12, dutyWidth := 7 } = true := by decide
/-- With 8 bits, 255 is the largest period: 2000000 / 7783 = 256 and 2000000 / 7782 = 257. -/
theorem test_narrow_counter : periodOf { Config.hw with counterWidth := 8 } 7783 = .ok 255 ∧
    periodOf { Config.hw with counterWidth := 8 } 7782 = .error ⟨3, 7782⟩ := by decide
/-- With a 12-bit frequency, 4000 + 100 overflows. -/
theorem test_narrow_freq : (see (step { ctrlAt .decide with
    freq := 4000, cfg := { Config.hw with freqWidth := 12, fCeil := 4095 } }) fun t => (t.fault, t.finfo, t.freq)) =
    some (6, 4000, 4000) := by decide

/-- Both update latches and both issuers. -/
theorem test_witness_InvariantsHoldAtReset : configValid Config.hw = true ∧ configValid immediateHw = true ∧
    immediateHw.updateLatch = .immediate := by decide

/-- The bounds 0, 1, 30 and 31 of the clauses. -/
theorem test_witness_PeriodOfOnThisHardware : HwArith Config.hw ∧ 31 ≤ (31 : FreqWord).toNat ∧
    (0 : FreqWord).toNat = 0 ∧ 1 ≤ (1 : FreqWord).toNat ∧ (30 : FreqWord).toNat ≤ 30 := by decide

theorem test_witness_CompareOfLaws : 65535 * 100 < 2 ^ Config.hw.arithWidth ∧ (100 : DutyWord).toNat ≤ 100 ∧
    (0 : DutyWord).toNat = 0 ∧ 3332 ≤ 3999 ∧
    (88 : DutyWord).toNat ≤ (90 : DutyWord).toNat ∧ compareOf Config.hw 3999 90 = .ok 3599 ∧
    65535 < 2 ^ Config.hw.counterWidth ∧ Config.hw.counterWidth ≤ 16 ∧ Config.hw.arithWidth = 32 := by decide

/-- One witness per clause, with a stopped and a running counter. -/
theorem test_witness_InitInstallsPair : State.reset.fault = 0 ∧ State.reset.cen = false ∧ inited.fault = 0 ∧
    inited.cen = true ∧ periodOf Config.hw 500 = .ok 3999 ∧ compareOf Config.hw 3999 90 = .ok 3599 ∧
    periodOf Config.hw 0 = .error ⟨2, 0⟩ ∧ compareOf Config.hw 3999 101 = .error ⟨4, 101⟩ := by decide

theorem test_witness_InitOnThisHardware : State.reset.fault = 0 ∧ HwArith State.reset.cfg ∧
    State.reset.cen = false ∧ inited.fault = 0 ∧ HwArith inited.cfg ∧ inited.cen = true := by decide

/-- The four branches, at their bounds. -/
theorem test_branches_InitOnThisHardware : ((see (exec (.init 31 100) State.reset) fun t => (t.fault, t.period)),
      (see (exec (.init 31 101) State.reset) fun t => (t.fault, t.period)),
      (see (exec (.init 30 101) State.reset) fun t => (t.fault, t.period)),
      (see (exec (.init 0 101) State.reset) fun t => (t.fault, t.period))) =
    (some (0, 64515), some (4, 0), some (3, 0), some (2, 0)) := by decide

theorem test_witness_SetfInstallsPeriod : inited.fault = 0 ∧ periodOf inited.cfg 600 = .ok 3332 ∧
    periodOf inited.cfg 30 = .error ⟨3, 30⟩ := by decide

theorem test_witness_SetdInstallsCompare : inited.fault = 0 ∧ inited.period * 100 < 2 ^ inited.cfg.arithWidth ∧
    compareOf inited.cfg inited.period 100 = .ok 3999 ∧ compareOf inited.cfg inited.period 101 = .error ⟨4, 101⟩ ∧
    100 < (101 : DutyWord).toNat := by decide

/-- ReadCommandsAnswerInResp and the statements of CLRSTOP, TGLSTOP and TGLDIR. -/
theorem test_witness_ReadAndLatch : inited.fault = 0 ∧ State.reset.fault = 0 ∧ configValid inited.cfg = true ∧
    WidthInv inited := by decide

theorem test_witness_Tgldir : Instr.rdstop ≠ .tgldir ∧ ∃ t, exec .rdstop inited = .next t := ⟨by decide, _, rfl⟩

theorem test_witness_CommandFrame : ∃ t, exec (.setf 600) inited = .next t := ⟨_, rfl⟩

theorem test_witness_FaultingCommandIsPrecise :
    inited.fault = 0 ∧ ∃ t, exec (.setf 0) inited = .next t ∧ t.fault ≠ 0 := ⟨by decide, _, rfl, by decide⟩

theorem test_witness_FaultedBlock : ({ inited with fault := 4 } : State).fault ≠ 0 := by decide

theorem test_witness_TickCountsAndWraps : configValid (due .tick inited).cfg = true ∧ dueMove (due .tick inited) = .tick := by
  decide

theorem test_witness_CounterStaysWithinTop : CounterInv (due .tick inited) ∧
    (due .tick inited).cfg.updateLatch = .cycleBoundary ∧ ∃ t, step (due .tick inited) = .next t :=
  ⟨by decide, by decide, _, rfl⟩

theorem test_witness_PwmCycle : shortCycle.cen = true ∧ shortCycle.cnt = 0 ∧ State.reset.cen = false ∧
    5 ≤ shortCycle.perA := by decide

theorem test_witness_CommandsLeaveRunningCycle : inited.cfg.updateLatch = .cycleBoundary ∧ inited.cen = true ∧
    ∃ t, exec (.init 3000 76) inited = .next t := ⟨by decide, by decide, _, rfl⟩

theorem test_witness_ImmediateCopies : ImmediateInv (due .tick { inited with cfg := immediateHw }) ∧
    immediateHw.updateLatch = .immediate ∧ ∃ t, step (due .tick { inited with cfg := immediateHw }) = .next t :=
  ⟨by decide, by decide, _, rfl⟩

theorem test_witness_Ext : configValid inited.cfg = true ∧ dueMove (due .extAssert inited) = .extAssert ∧
    dueMove (due .extDeassert inited) = .extDeassert := by decide

theorem test_witness_Obs : configValid inited.cfg = true ∧ dueMove (due .observe inited) = .observe := by decide

theorem test_witness_HostReset : configValid inited.cfg = true ∧ dueMove (due .hostReset inited) = .hostReset := by decide

theorem test_witness_UpdatesAreGlitchFree : ∃ t, step (due .observe inited) = .next t := ⟨_, rfl⟩

theorem test_witness_BootStep : CtrlTurn (due .issuer State.reset) ∧ (due .issuer State.reset).ph = .boot ∧
    periodOf Config.hw 500 = .ok 3999 ∧ compareOf Config.hw 3999 90 = .ok 3599 := by decide

/-- ReportStep, SampleAndRestartSteps, WaitSteps, RepairCheckStep, CeilingLatchSteps: CTRL's turn in each phase, the
registers within their widths. -/
theorem test_witness_phases : CtrlTurn (ctrlAt .report) ∧ CtrlTurn (ctrlAt .sample) ∧ CtrlTurn (ctrlAt .restart) ∧
    CtrlTurn (ctrlAt .cooldown) ∧ CtrlTurn (ctrlAt .wait) ∧ CtrlTurn (ctrlAt .settle) ∧
    CtrlTurn (ctrlAt .repairCheck) ∧ WidthInv (ctrlAt .repairCheck) ∧ CtrlTurn (ctrlAt .ceilStop) ∧ CtrlTurn (ctrlAt .ceilDir) := by decide

/-- One witness per clause: at the ceiling, with the sum just too large and just fitting, and with a fault of
PeriodOf (a step of 0 at the frequency 30, which the constraints of R7 allow). -/
theorem test_witness_DecideStep :
    (CtrlTurn { ctrlAt .decide with freq := 3000 } ∧ Config.hw.fCeil ≤ 3000) ∧
    (CtrlTurn { ctrlAt .decide with freq := 65436, cfg := { Config.hw with fCeil := 65535 } } ∧
      2 ^ Config.hw.freqWidth ≤ 65436 + Config.hw.fStep) ∧
    (CtrlTurn { ctrlAt .decide with freq := 65435, cfg := { Config.hw with fCeil := 65535 } } ∧
      65435 + Config.hw.fStep < 2 ^ Config.hw.freqWidth ∧ periodOf Config.hw 65535 = .ok 29) ∧
    (CtrlTurn { ctrlAt .decide with freq := 30, cfg := { Config.hw with fStep := 0 } } ∧
      periodOf { Config.hw with fStep := 0 } 30 = .error ⟨3, 30⟩) := by decide

/-- The three clauses at their bounds: duty 1, 103 and 102. -/
theorem test_witness_RepairStep : CtrlTurn { ctrlAt .repairStep with duty := 1 } ∧
    CtrlTurn { ctrlAt .repairStep with duty := 103 } ∧ CtrlTurn { ctrlAt .repairStep with duty := 102 } ∧
    WidthInv { ctrlAt .repairStep with duty := 103 } ∧
    (ctrlAt .repairStep).period * 100 < 2 ^ Config.hw.arithWidth ∧ 1 < Config.hw.dStep ∧
    100 < 103 - Config.hw.dStep ∧ 102 - Config.hw.dStep ≤ 100 := by decide

theorem test_witness_CeilResetStep : CtrlTurn (ctrlAt .ceilReset) ∧ (ctrlAt .ceilReset).cen = true ∧
    periodOf Config.hw 500 = .ok 3999 ∧ compareOf Config.hw 3999 90 = .ok 3599 := by decide

/-- A halted controller, and one stopped by a fault. -/
theorem test_witness_Halted : configValid Config.hw = true ∧ dueMove (ctrlAt .halted) = .issuer ∧
    (ctrlAt .halted).mode = .controller ∧ ({ ctrlAt .report with fault := 4 } : State).fault ≠ 0 := by decide

theorem test_witness_PhaseTransitions : CtrlTurn (ctrlAt .sample) ∧ WidthInv (ctrlAt .sample) ∧
    ∃ t, step (ctrlAt .sample) = .next t := ⟨by decide, by decide, _, rfl⟩

theorem test_witness_RampStateWriters : dueMove (ctrlAt .decide) ≠ .hostReset ∧
    ∃ t, step (ctrlAt .decide) = .next t ∧ t.freq ≠ (ctrlAt .decide).freq := ⟨by decide, _, rfl, by decide⟩

/-- The invariants hold, with nothing vacuous about them, in a state that has a step. -/
theorem test_witness_invariants : WidthInv (ctrlAt .report) ∧ ReportInv (ctrlAt .report) ∧ DirectionInv (ctrlAt .report) ∧
    DutyInv (ctrlAt .report) ∧ FaultInv (ctrlAt .report) ∧ ∃ t, step (ctrlAt .report) = .next t :=
  ⟨by decide, by decide, by decide, by decide, by decide, _, rfl⟩

theorem test_witness_OneRepairSuffices : configValid Config.hw = true ∧ (ctrlAt .repairStep).mode = .controller ∧
    (ctrlAt .repairStep).fault = 0 ∧ WidthInv (ctrlAt .repairStep) ∧
    (ctrlAt .repairStep).period * 100 < 2 ^ Config.hw.arithWidth ∧
    Config.hw.dStep ≤ (ctrlAt .repairStep).duty ∧ DutyInv (ctrlAt .repairStep) ∧
    .issuer ∉ [Move.tick, .extAssert, .observe] ∧ .hostReset ∉ [Move.tick, .extAssert, .observe] := by decide

/-- Both ends of the range: no extra step, and a stop with a repair. -/
theorem test_witness_IterationTakes : configValid Config.hw = true ∧ HwArith Config.hw ∧ HwRamp Config.hw ∧
    (ctrlAt .report).mode = .controller ∧ (ctrlAt .report).fault = 0 ∧ WidthInv (ctrlAt .report) ∧ 2 ≤ (ctrlAt .report).duty ∧
    (ctrlAt .report).duty ≤ 100 ∧ iterationSteps { ctrlAt .report with compare := 0 } = 5 ∧
    iterationSteps { ctrlAt .report with stop := true } = 9 ∧
    iterationSteps { ctrlAt .report with stop := true, freq := 3000 } = 10 := by decide

theorem test_witness_CeilingResets : configValid Config.hw = true ∧ HwArith Config.hw ∧ HwRamp Config.hw ∧
    (ctrlAt .decide).fault = 0 ∧ (ctrlAt .decide).cen = true ∧
    3000 ≤ ({ ctrlAt .decide with freq := 3000 } : State).freq := by decide

theorem test_witness_StopPath : configValid Config.hw = true ∧ (ctrlAt .sample).mode = .controller ∧
    (ctrlAt .sample).fault = 0 ∧ ({ ctrlAt .sample with stop := true } : State).stop = true := by decide

/-- TraceIsNeverRead and ParametersModeAndListNeverChange, in both branches of the first. -/
theorem test_witness_any_step : (∃ t, step (ctrlAt .report) = .next t) ∧
    ∃ t, step (due .hostReset inited) = .next t := ⟨⟨_, rfl⟩, _, rfl⟩

theorem test_witness_FaultIsSticky : ({ due .tick inited with fault := 4 } : State).fault ≠ 0 ∧
    dueMove (due .tick inited) ≠ .hostReset ∧ ∃ t, step { due .tick inited with fault := 4 } = .next t :=
  ⟨by decide, by decide, _, rfl⟩

/-- The clauses on what goes on after a fault, the count at the bounds of its two cases. -/
theorem test_witness_goes_on_after_fault : configValid inited.cfg = true ∧ inited.cen = true ∧ inited.ie = true ∧
    ({ inited with cnt := 3998 } : State).cnt < inited.perA ∧ inited.perA ≤ ({ inited with cnt := 3999 } : State).cnt ∧
    inited.cfg.updateLatch = .cycleBoundary ∧ configValid immediateHw = true ∧ immediateHw.updateLatch = .immediate ∧
    configValid { Config.hw with extDeassert := true } = true := by decide

theorem test_witness_HarnessLeaves : (harnessRun [0x40000000] [.issuer]).mode = .harness ∧
    dueMove (harnessRun [0x40000000] [.issuer]) ≠ .hostReset ∧
    ∃ t, step (harnessRun [0x40000000] [.issuer]) = .next t := ⟨by decide, by decide, _, rfl⟩

end Sys2Proof.Tests
end

section
/-! PROOFS. The latch commands CLRSTOP and TGLDIR (41_latches.md R122, R124). For TGLDIR the idea is that every other
command's rule commutes with writing the direction latch: writing it first or last gives the same state. -/

namespace Sys2Proof.Machine

/-- On a block without a fault, a command whose rule does not fault answers its rule's state (R83). -/
theorem exec_of_commandResult_ok {i : Instr} {s t : State} (hf : s.fault = 0) (hr : commandResult i s = .ok t) :
    exec i s = .next t := by
  rw [exec_eq_perform, hr]
  exact perform_ok hf

/-! ### The commands' writes commute with a write of `DIRL` -/

theorem installPair_setDirl (p c : Nat) (s : State) (b : Bool) :
    installPair p c (s.setDirl b) = (installPair p c s).setDirl b := by
  cases h : s.cen
  · rw [installPair_stopped p c h, installPair_stopped p c (s := s.setDirl b) h]
    rfl
  · rw [installPair_running p c h, installPair_running p c (s := s.setDirl b) h]
    rfl

theorem installPeriod_setDirl (p : Nat) (s : State) (b : Bool) :
    installPeriod p (s.setDirl b) = (installPeriod p s).setDirl b := by
  rw [installPeriod_eq, installPeriod_eq]
  rfl

theorem installCompare_setDirl (c : Nat) (s : State) (b : Bool) :
    installCompare c (s.setDirl b) = (installCompare c s).setDirl b := by
  rw [installCompare_eq, installCompare_eq]
  rfl

theorem takeFault_setDirl (s : State) (r : Raise) (b : Bool) :
    takeFault (s.setDirl b) r = (takeFault s r).setDirl b := by
  unfold takeFault
  rw [setDirl_mode, setDirl_fault]
  cases s.mode <;> split <;> rfl

/-- R124: the rule of every command but TGLDIR answers or faults alike whatever `DIRL` holds, and leaves it. -/
theorem commandResult_setDirl {i : Instr} (hi : i ≠ .tgldir) (s : State) (b : Bool) :
    commandResult i (s.setDirl b) = (commandResult i s).map (·.setDirl b) := by
  cases i with
  | init f d =>
    simp only [commandResult, initResult, setDirl_cfg, installPair_setDirl]
    cases periodOf s.cfg f with
    | error r => rfl
    | ok p => dsimp only; cases compareOf s.cfg p d <;> rfl
  | setf f =>
    simp only [commandResult, setfResult, setDirl_cfg, installPeriod_setDirl]
    cases periodOf s.cfg f <;> rfl
  | setd d =>
    simp only [commandResult, setdResult, setDirl_cfg, setDirl_period, installCompare_setDirl]
    cases compareOf s.cfg s.period d <;> rfl
  | tgldir => exact absurd rfl hi
  | _ => rfl

/-- R124: no command but TGLDIR reads or writes `DIRL`. -/
theorem exec_setDirl {i : Instr} {s t : State} (hi : i ≠ .tgldir) (h : exec i s = .next t) (b : Bool) :
    exec i (s.setDirl b) = .next (t.setDirl b) := by
  rw [exec_eq_perform, commandResult_setDirl hi]
  rcases exec_inversion h with ⟨hf, rfl⟩ | ⟨hf, hr⟩ | ⟨hf, r, hr, rfl⟩
  · exact perform_faulted hf
  · rw [hr]
    exact perform_ok hf
  · rw [hr, ← takeFault_setDirl]
    exact perform_error hf

/-! ### The two statements -/

/-- Settles O43: TGLDIR's own rule, that every other command commutes with a write of `DIRL`, and that the other two
pins are functions of other fields. -/
theorem tgldirInvertsDirectionLatch : Obligations.TgldirInvertsDirectionLatch := by
  unfold Obligations.TgldirInvertsDirectionLatch
  refine ⟨by decide, fun s hf => ?tgldir, fun i s t b hi h => exec_setDirl hi h b, fun s b => ⟨rfl, rfl⟩⟩
  case tgldir => exact exec_of_commandResult_ok hf rfl

/-- Settles O13: CLRSTOP's own rule, and RDSTOP's on the state that EXT leaves after it. -/
theorem clrstopDeassertsStopLatch : Obligations.ClrstopDeassertsStopLatch := by
  unfold Obligations.ClrstopDeassertsStopLatch
  refine ⟨by decide, fun s hf => ⟨?clrstop, ?rdstop⟩⟩
  case clrstop => exact exec_of_commandResult_ok hf rfl
  case rdstop =>
    have hext : (extAssert { s with stop := false }).fault = 0 := hf
    exact exec_of_commandResult_ok hext rfl

end Sys2Proof.Machine
end

section
/-! PROOFS. The step of P_REPORT (45_ramp_controller.md R135, R137): a turn of CTRL is the step of the phase the block
is in, and P_REPORT's own rule is `phaseReport_eq`. -/

namespace Sys2Proof.Machine

/-- On CTRL's turn the step of the block is CTRL's step on the state with the turn taken (R135). -/
theorem step_of_ctrlTurn {s : State} (h : CtrlTurn s) : step s = ctrlStep (takeTurn s) := by
  obtain ⟨hvalid, hdue, hmode, _⟩ := h
  rw [step_valid hvalid, hdue]
  exact issuerStep_controller ((takeTurn_mode s).trans hmode)

/-- Without a fault, CTRL's step in P_REPORT is that phase's (R135). -/
theorem ctrlStep_report {s : State} (hf : s.fault = 0) (hph : s.ph = .report) : ctrlStep s = phaseReport s := by
  rw [ctrlStep_phase hf, hph]

/-- Settles O37: the step is P_REPORT's phase on the state with the turn taken, which has the registers of `s`. -/
theorem reportStep : Obligations.ReportStep := by
  unfold Obligations.ReportStep
  intro s hturn hph
  have ⟨_, _, _, hf⟩ := hturn
  have hf' : (takeTurn s).fault = 0 := (takeTurn_fault s).trans hf
  rw [step_of_ctrlTurn hturn, ctrlStep_report hf' ((takeTurn_ph s).trans hph), phaseReport_eq hf']
  simp [State.goto, State.emit, State.respond, zextReg]

end Sys2Proof.Machine
end

section
/-! PROOFS. The encoding (30_encoding.md R71 to R79, 20_memory.md R53). A word is a command exactly if its four fields
are those the command writes (`decode_ok_iff`); the round trips, the illegal words and the opcode table follow. -/

namespace Sys2Proof

/-! ### The fields a command writes (R78) -/

/-- `OP` of a command's word (R74). -/
def Instr.opCode : Instr → BitVec 4
  | .init _ _ => 1
  | .setf _   => 2
  | .setd _   => 3
  | .rdper    => 4
  | .rdcmp    => 5
  | .rdstop   => 6
  | .clrstop  => 7
  | .tglstop  => 8
  | .tgldir   => 9

/-- `D` of a command's word: its duty operand, 0 where it has none (R73, R75). -/
def Instr.dutyOperand : Instr → DutyWord
  | .init _ d => d
  | .setd d   => d
  | _         => 0

/-- `F` of a command's word: its frequency operand, 0 where it has none (R72, R75). -/
def Instr.freqOperand : Instr → FreqWord
  | .init f _ => f
  | .setf f   => f
  | _         => 0

theorem encode_eq_packWord (i : Instr) : encode i = packWord i.opCode i.dutyOperand i.freqOperand := by
  cases i with
  | init f d => rfl
  | setf f   => rfl
  | setd d   => rfl
  | rdper    => exact encode_rdper
  | rdcmp    => exact encode_rdcmp
  | rdstop   => exact encode_rdstop
  | clrstop  => exact encode_clrstop
  | tglstop  => exact encode_tglstop
  | tgldir   => exact encode_tgldir

theorem needDutyZero_ok {w : Word} {i j : Instr} (h : needDutyZero w i = .ok j) : dutyField w = 0 ∧ i = j := by
  unfold needDutyZero at h
  split at h
  · exact ⟨‹_›, Except.ok.inj h⟩
  · cases h

theorem needFreqZero_ok {w : Word} {i j : Instr} (h : needFreqZero w i = .ok j) : freqField w = 0 ∧ i = j := by
  unfold needFreqZero at h
  split at h
  · exact ⟨‹_›, Except.ok.inj h⟩
  · cases h

theorem needBothZero_ok {w : Word} {i j : Instr} (h : needBothZero w i = .ok j) :
    dutyField w = 0 ∧ freqField w = 0 ∧ i = j := by
  unfold needBothZero at h
  split at h
  next hz => exact ⟨hz.1, hz.2, Except.ok.inj h⟩
  next => cases h

/-- R75, R76, R78: a word that decodes has the fields of its command. -/
theorem fields_of_decode {w : Word} {i : Instr} (h : decode w = .ok i) :
    rsvField w = 0 ∧ opField w = i.opCode ∧ dutyField w = i.dutyOperand ∧ freqField w = i.freqOperand := by
  unfold decode at h
  split at h
  · cases h
  next hrsv =>
    have op_eq {k : Nat} (hk : (opField w).toNat = k) : opField w = BitVec.ofNat 4 k :=
      BitVec.eq_of_toNat_eq (by rw [hk, BitVec.toNat_ofNat]; omega)
    refine ⟨Decidable.not_not.mp hrsv, ?_⟩
    split at h
    next hop => cases h; exact ⟨op_eq hop, rfl, rfl⟩
    next hop => obtain ⟨hd, rfl⟩ := needDutyZero_ok h; exact ⟨op_eq hop, hd, rfl⟩
    next hop => obtain ⟨hf, rfl⟩ := needFreqZero_ok h; exact ⟨op_eq hop, rfl, hf⟩
    next hop => obtain ⟨hd, hf, rfl⟩ := needBothZero_ok h; exact ⟨op_eq hop, hd, hf⟩
    next hop => obtain ⟨hd, hf, rfl⟩ := needBothZero_ok h; exact ⟨op_eq hop, hd, hf⟩
    next hop => obtain ⟨hd, hf, rfl⟩ := needBothZero_ok h; exact ⟨op_eq hop, hd, hf⟩
    next hop => obtain ⟨hd, hf, rfl⟩ := needBothZero_ok h; exact ⟨op_eq hop, hd, hf⟩
    next hop => obtain ⟨hd, hf, rfl⟩ := needBothZero_ok h; exact ⟨op_eq hop, hd, hf⟩
    next hop => obtain ⟨hd, hf, rfl⟩ := needBothZero_ok h; exact ⟨op_eq hop, hd, hf⟩
    next => cases h

/-- R78: a word with the fields of a command decodes to it. -/
theorem decode_of_fields {w : Word} {i : Instr} (hrsv : rsvField w = 0) (hop : opField w = i.opCode)
    (hd : dutyField w = i.dutyOperand) (hf : freqField w = i.freqOperand) : decode w = .ok i := by
  unfold decode
  rw [if_neg (not_not_intro hrsv), hop]
  cases i <;>
    simp [Instr.opCode, Instr.dutyOperand, Instr.freqOperand, needDutyZero, needFreqZero, needBothZero] at hd hf ⊢ <;>
    simp [hd, hf]

/-- The decoder, said once by fields. -/
theorem decode_ok_iff {w : Word} {i : Instr} : decode w = .ok i ↔
    rsvField w = 0 ∧ opField w = i.opCode ∧ dutyField w = i.dutyOperand ∧ freqField w = i.freqOperand :=
  ⟨fields_of_decode, fun ⟨hrsv, hop, hd, hf⟩ => decode_of_fields hrsv hop hd hf⟩

theorem decode_encode (i : Instr) : decode (encode i) = .ok i := by
  rw [decode_ok_iff, encode_eq_packWord]
  simp

theorem encode_of_decode {w : Word} {i : Instr} (h : decode w = .ok i) : encode i = w := by
  obtain ⟨hrsv, hop, hd, hf⟩ := fields_of_decode h
  rw [encode_eq_packWord, ← hop, ← hd, ← hf]
  exact packWord_fields hrsv

/-- Settles O2: the word of a command has the command's fields. -/
theorem decodeOfEncode : Obligations.DecodeOfEncode := decode_encode

/-- Settles O3: a word that decodes is its packed fields, which are the command's. -/
theorem encodeOfDecode : Obligations.EncodeOfDecode := fun _ _ => encode_of_decode

/-- Settles O1: each word is decoded. -/
theorem representativeWordsDecode : Obligations.RepresentativeWordsDecode := by
  unfold Obligations.RepresentativeWordsDecode
  decide

/-! ### The opcode table (R74, R77) -/

/-- Taking a field of a word commutes with masking the word. -/
theorem extractLsb'_and (start len : Nat) (v w : Word) :
    (v &&& w).extractLsb' start len = v.extractLsb' start len &&& w.extractLsb' start len := by
  apply BitVec.eq_of_getLsbD_eq
  intro k hk
  simp [hk]

/-- What a row's acceptance says of each field of a word. -/
theorem fields_of_accepts {r : TableRow} {w : Word} (h : r.accepts w = true) :
    opField w &&& opField r.mask = opField r.pattern ∧ rsvField w &&& rsvField r.mask = rsvField r.pattern ∧
    dutyField w &&& dutyField r.mask = dutyField r.pattern ∧
    freqField w &&& freqField r.mask = freqField r.pattern := by
  have hw : w &&& r.mask = r.pattern := beq_iff_eq.mp h
  rw [← hw]
  simp only [opField, rsvField, dutyField, freqField, extractLsb'_and, and_self]

theorem tableRow_mem (i : Instr) : i.tableRow ∈ opcodeTable := by
  cases i <;> simp [opcodeTable, Instr.tableRow]

/-- R74: the row of a command accepts its word. -/
theorem tableRow_accepts_encode (i : Instr) : i.tableRow.accepts (encode i) = true := by
  cases i with
  | init f d => exact (Laws.TableRow.init f d).1
  | setf f   => exact (Laws.TableRow.setf f).1
  | setd d   => exact (Laws.TableRow.setd d).1
  | rdper    => exact Laws.TableRow.rdper.1
  | rdcmp    => exact Laws.TableRow.rdcmp.1
  | rdstop   => exact Laws.TableRow.rdstop.1
  | clrstop  => exact Laws.TableRow.clrstop.1
  | tglstop  => exact Laws.TableRow.tglstop.1
  | tgldir   => exact Laws.TableRow.tgldir.1

/-- Every row's mask covers `OP`, so a word that a row accepts has the row's opcode. -/
theorem opField_of_accepts {r : TableRow} {w : Word} (hr : r ∈ opcodeTable) (h : r.accepts w = true) :
    opField w = opField r.pattern := by
  have hmask : ∀ r ∈ opcodeTable, opField r.mask = BitVec.allOnes 4 := by decide
  have hop := (fields_of_accepts h).1
  rwa [hmask r hr, BitVec.and_allOnes] at hop

/-- No two rows have the same opcode, so at most one row accepts a word (R77). -/
theorem accepting_row_unique {r q : TableRow} {w : Word} (hr : r ∈ opcodeTable) (hq : q ∈ opcodeTable)
    (hrw : r.accepts w = true) (hqw : q.accepts w = true) : r = q := by
  have hdistinct : ∀ r ∈ opcodeTable, ∀ q ∈ opcodeTable, opField r.pattern = opField q.pattern → r = q := by decide
  exact hdistinct r hr q hq ((opField_of_accepts hr hrw).symm.trans (opField_of_accepts hq hqw))

theorem eq_of_and_allOnes {n : Nat} {x m p : BitVec n} (h : x &&& m = p) (hm : m = BitVec.allOnes n) : x = p := by
  rwa [hm, BitVec.and_allOnes] at h

/-- A command without operands is one word: its row's mask covers every bit. -/
theorem decode_of_full_row {w : Word} {i : Instr} (hmask : i.tableRow.mask = BitVec.allOnes 32)
    (hword : i.tableRow.pattern = encode i) (h : i.tableRow.accepts w = true) : ∃ j, decode w = .ok j := by
  have hw : w = i.tableRow.pattern := eq_of_and_allOnes (beq_iff_eq.mp h) hmask
  exact ⟨i, by rw [hw, hword, decode_encode]⟩

/-- R74: a word that a row accepts is a command, with the operands the word holds. -/
theorem decode_of_accepts {w : Word} {r : TableRow} (hr : r ∈ opcodeTable) (h : r.accepts w = true) :
    ∃ i, decode w = .ok i := by
  obtain ⟨hop, hrsv, hd, hf⟩ := fields_of_accepts h
  simp only [opcodeTable, List.mem_cons, List.not_mem_nil, or_false] at hr
  rcases hr with rfl | rfl | rfl | rfl | rfl | rfl | rfl | rfl | rfl
  · exact ⟨.init (freqField w) (dutyField w), decode_of_fields (eq_of_and_allOnes hrsv (by decide))
      (eq_of_and_allOnes hop (by decide)) rfl rfl⟩
  · exact ⟨.setf (freqField w), decode_of_fields (eq_of_and_allOnes hrsv (by decide))
      (eq_of_and_allOnes hop (by decide)) (eq_of_and_allOnes hd (by decide)) rfl⟩
  · exact ⟨.setd (dutyField w), decode_of_fields (eq_of_and_allOnes hrsv (by decide))
      (eq_of_and_allOnes hop (by decide)) rfl (eq_of_and_allOnes hf (by decide))⟩
  · exact decode_of_full_row (by decide) (by decide) h
  · exact decode_of_full_row (by decide) (by decide) h
  · exact decode_of_full_row (by decide) (by decide) h
  · exact decode_of_full_row (by decide) (by decide) h
  · exact decode_of_full_row (by decide) (by decide) h
  · exact decode_of_full_row (by decide) (by decide) h

/-- Settles O4: a command's word is accepted by its row, an accepted word has the row's fields, and no two rows accept
one word. -/
theorem decodeAgreesWithOpcodeTable : Obligations.DecodeAgreesWithOpcodeTable := by
  unfold Obligations.DecodeAgreesWithOpcodeTable
  have accepted {w : Word} {i : Instr} (h : decode w = .ok i) : i.tableRow.accepts w = true := by
    rw [← encode_of_decode h]
    exact tableRow_accepts_encode i
  refine ⟨fun w => ⟨?accepts, ?decodes⟩, fun w i h r hr => ⟨?unique, ?own⟩⟩
  case accepts => exact fun ⟨i, h⟩ => ⟨i.tableRow, tableRow_mem i, accepted h⟩
  case decodes => exact fun ⟨r, hr, h⟩ => decode_of_accepts hr h
  case unique => exact fun hrw => accepting_row_unique hr (tableRow_mem i) hrw (accepted h)
  case own => exact fun e => e ▸ accepted h

/-! ### Illegal words and the transport (R75, R76, R53) -/

/-- R75, R76: a word whose fields are no command's does not decode. -/
theorem decode_error_of_illegal_fields {w : Word}
    (h : rsvField w ≠ 0 ∨ (opField w = 2 ∧ dutyField w ≠ 0) ∨ (opField w = 3 ∧ freqField w ≠ 0) ∨
      (4 ≤ (opField w).toNat ∧ (opField w).toNat ≤ 9 ∧ (dutyField w ≠ 0 ∨ freqField w ≠ 0)) ∨
      opField w = 0 ∨ 10 ≤ (opField w).toNat) :
    ∃ e, decode w = .error e := by
  cases hw : decode w with
  | error e => exact ⟨e, rfl⟩
  | ok i =>
    exfalso
    obtain ⟨hrsv, hop, hd, hf⟩ := fields_of_decode hw
    rw [hrsv, hop, hd, hf] at h
    cases i <;> simp [Instr.opCode, Instr.dutyOperand, Instr.freqOperand] at h

theorem bytes_append_eq (w : Word) :
    w.extractLsb' 24 8 ++ w.extractLsb' 16 8 ++ w.extractLsb' 8 8 ++ w.extractLsb' 0 8 = w := by
  rw [BitVec.extractLsb'_append_extractLsb'_eq_extractLsb' (by omega),
    BitVec.extractLsb'_append_extractLsb'_eq_extractLsb' (by omega),
    BitVec.extractLsb'_append_extractLsb'_eq_extractLsb' (by omega)]
  exact BitVec.extractLsb'_eq_self

/-- Settles O6: the four bytes, put together again, are the word. -/
theorem transportDeliversWord : Obligations.TransportDeliversWord := by
  unfold Obligations.TransportDeliversWord
  intro w rest
  show (match decode (w.extractLsb' 24 8 ++ w.extractLsb' 16 8 ++ w.extractLsb' 8 8 ++ w.extractLsb' 0 8) with
    | .ok i => Except.ok (i, rest)
    | .error e => .error e) = _
  rw [bytes_append_eq]
  cases decode w <;> rfl

end Sys2Proof

namespace Sys2Proof.Machine

/-- A fault taken on a block without one, whoever issued (R171). -/
theorem takeFault_eq {s : State} (r : Raise) (h : s.fault = 0) :
    takeFault s r =
      { s with fault := r.code, finfo := r.info, ph := if s.mode = .controller then .halted else s.ph } := by
  cases hm : s.mode
  · rw [takeFault_controller r h hm, if_pos rfl, hm]
  · rw [takeFault_harness r h hm, if_neg nofun, hm]

/-- Settles O5: none of these words decodes, so the word's fault is taken. -/
theorem illegalWordTakesIllegalCmd : Obligations.IllegalWordTakesIllegalCmd := by
  unfold Obligations.IllegalWordTakesIllegalCmd
  intro w s hfault hfields
  obtain ⟨e, he⟩ := decode_error_of_illegal_fields hfields
  rw [execWord_illegal hfault he, takeFault_eq _ hfault]
  rfl

end Sys2Proof.Machine
end

section
/-! PROOFS. The generator's registers over a step (40_pwm_generator.md, 60_exceptions.md R180, R183; 20_memory.md R57).
A step changes them in four ways only (`step_generator`): not at all, by one command of the issuer, by a tick, or at
reset. The invariants of the counter and of the active copies, and R57, are read off these cases. -/

namespace Sys2Proof.Machine

/-- The generator's registers, active copies, counter and parameters are the same in both states. -/
structure SameGenerator (s t : State) : Prop where
  period  : t.period = s.period
  compare : t.compare = s.compare
  cen     : t.cen = s.cen
  cnt     : t.cnt = s.cnt
  perA    : t.perA = s.perA
  cmpA    : t.cmpA = s.cmpA
  cfg     : t.cfg = s.cfg

namespace SameGenerator

theorem refl (s : State) : SameGenerator s s := ⟨rfl, rfl, rfl, rfl, rfl, rfl, rfl⟩

theorem trans {s t u : State} (h : SameGenerator s t) (h' : SameGenerator t u) : SameGenerator s u :=
  ⟨h'.period.trans h.period, h'.compare.trans h.compare, h'.cen.trans h.cen, h'.cnt.trans h.cnt,
    h'.perA.trans h.perA, h'.cmpA.trans h.cmpA, h'.cfg.trans h.cfg⟩

theorem takeTurn (s : State) : SameGenerator s (takeTurn s) := by constructor <;> simp

theorem takeFault (s : State) (r : Raise) : SameGenerator s (takeFault s r) := by constructor <;> simp

theorem afterWord (s : State) : SameGenerator s (afterWord s) := by
  rcases afterWord_cases s with h | h <;> rw [h] <;> exact ⟨rfl, rfl, rfl, rfl, rfl, rfl, rfl⟩

theorem extDeassert (s : State) : SameGenerator s (extDeassert s) := by
  unfold Machine.extDeassert
  split <;> exact ⟨rfl, rfl, rfl, rfl, rfl, rfl, rfl⟩

theorem obsRead (s : State) : SameGenerator s (obsRead s) := by
  unfold Machine.obsRead
  split <;> exact ⟨rfl, rfl, rfl, rfl, rfl, rfl, rfl⟩

end SameGenerator

/-- One command that does not fault takes the generator of `s` to that of `t` (R57). -/
def GeneratorCommand (s t : State) : Prop :=
  ∃ (i : Instr) (v u : State), SameGenerator s v ∧ v.fault = s.fault ∧ v.fault = 0 ∧ commandResult i v = .ok u ∧
    SameGenerator u t

/-- A phase leaves the generator alone or changes it by one command. -/
theorem phase_generator {s t : State} (hf : s.fault = 0) (h : PhaseEffect s t) :
    SameGenerator s t ∨ GeneratorCommand s t := by
  have same : SameGenerator s s := .refl s
  cases h with
  | halted => exact .inl same
  | fault r => exact .inl (.takeFault s r)
  | boot u _ hu =>
    exact .inr ⟨_, ((setBaseline s).setDir .forward).setRun .running, u, by constructor <;> rfl, rfl, hf, hu,
      by constructor <;> simp⟩
  | raise p _ _ _ _ hu => exact .inr ⟨_, s, _, same, rfl, hf, hu, by constructor <;> simp⟩
  | repairStep c _ _ _ hu => exact .inr ⟨_, s, _, same, rfl, hf, hu, by constructor <;> simp⟩
  | ceilReset u _ hu => exact .inr ⟨_, s, u, same, rfl, hf, hu, by constructor <;> rfl⟩
  | _ => exact .inl (by constructor <;> simp)

/-- Everything a step can do to the generator. -/
theorem step_generator {s t : State} (h : step s = .next t) :
    SameGenerator s t ∨ (dueMove s = .issuer ∧ GeneratorCommand s t) ∨
    (dueMove s = .tick ∧ t = tick (takeTurn s)) ∨ (dueMove s = .hostReset ∧ t = hostReset (takeTurn s)) := by
  have turn : SameGenerator s (takeTurn s) := .takeTurn s
  cases (step_effect h).2 with
  | controllerStopped => exact .inl turn
  | harnessStopped => exact .inl turn
  | controller _ hd _ hf he =>
    rcases phase_generator ((takeTurn_fault s).trans hf) he with hs | ⟨i, v, u, hv, hvf, hv0, hu, ht⟩
    · exact .inl (turn.trans hs)
    · exact .inr (.inl ⟨hd, i, v, u, turn.trans hv, hvf.trans (takeTurn_fault s), hv0, hu, ht⟩)
  | harnessCommand w i u hd _ hf _ _ hx =>
    have hf' : (takeTurn s).fault = 0 := (takeTurn_fault s).trans hf
    rcases exec_inversion hx with ⟨_, e⟩ | ⟨_, hr⟩ | ⟨_, r, _, e⟩
    · exact .inl (e ▸ turn.trans (.afterWord _))
    · exact .inr (.inl ⟨hd, i, _, u, turn, takeTurn_fault s, hf', hr, .afterWord u⟩)
    · exact .inl (e ▸ (turn.trans (.takeFault _ r)).trans (.afterWord _))
  | harnessIllegal w => exact .inl ((turn.trans (.takeFault _ _)).trans (.afterWord _))
  | tick hd => exact .inr (.inr (.inl ⟨hd, rfl⟩))
  | extAssert => exact .inl (turn.trans ⟨rfl, rfl, rfl, rfl, rfl, rfl, rfl⟩)
  | extDeassert => exact .inl (turn.trans (.extDeassert _))
  | observe => exact .inl (turn.trans (.obsRead _))
  | hostReset hd => exact .inr (.inr (.inr ⟨hd, rfl⟩))

/-! ### The counter stays within its top (R180) -/

theorem counterInv_congr {s t : State} (h : SameGenerator s t) (hs : CounterInv s) : CounterInv t := by
  unfold CounterInv
  rw [h.cfg, h.cnt, h.perA]
  exact hs

theorem counterInv_command {s t : State} (h : CommandEffect s t) (hs : CounterInv s) : CounterInv t := by
  intro hl
  cases h with
  | initRunning p c => exact (hs hl).trans_eq (activeAfter_cycleBoundary hl p s.perA).symm
  | initStopped p c => exact Nat.zero_le p
  | setf p => exact (hs hl).trans_eq (activeAfter_cycleBoundary hl p s.perA).symm
  | setd c => exact (hs hl).trans_eq (activeAfter_cycleBoundary hl s.period s.perA).symm
  | _ => exact hs hl

theorem counterInv_tick {s : State} (hs : CounterInv s) : CounterInv (tick s) := by
  intro hl
  rw [tick_cfg] at hl
  have hle : s.cnt ≤ s.perA := hs hl
  unfold tick atTop
  simp only [decide_eq_true_eq, hl]
  split
  · split
    · exact Nat.zero_le _
    next hlt => exact Nat.lt_of_not_le hlt
  · exact hle

/-- Settles O25: of the four ways a step changes the generator, a command leaves the count and the active period of a
running counter, a tick goes up only below the top, and a start and reset put the count at 0. -/
theorem counterStaysWithinTop : Obligations.CounterStaysWithinTop := by
  unfold Obligations.CounterStaysWithinTop
  intro s t hs h
  rcases step_generator h with hg | ⟨_, i, v, u, hv, _, _, hr, hu⟩ | ⟨_, rfl⟩ | ⟨_, rfl⟩
  · exact counterInv_congr hg hs
  · exact counterInv_congr hu (counterInv_command (command_effect hr) (counterInv_congr hv hs))
  · exact counterInv_tick (counterInv_congr (.takeTurn s) hs)
  · exact fun _ => Nat.zero_le _

/-! ### Under `IMMEDIATE` the active copies are the registers (R24) -/

theorem immediateInv_congr {s t : State} (h : SameGenerator s t) (hs : ImmediateInv s) : ImmediateInv t := by
  unfold ImmediateInv
  rw [h.cfg, h.perA, h.cmpA, h.period, h.compare]
  exact hs

theorem immediateInv_command {s t : State} (h : CommandEffect s t) (hs : ImmediateInv s) : ImmediateInv t := by
  intro hl
  cases h with
  | initRunning p c => exact ⟨activeAfter_immediate hl _ _, activeAfter_immediate hl _ _⟩
  | initStopped p c => exact ⟨rfl, rfl⟩
  | setf p => exact ⟨activeAfter_immediate hl _ _, activeAfter_immediate hl _ _⟩
  | setd c => exact ⟨activeAfter_immediate hl _ _, activeAfter_immediate hl _ _⟩
  | _ => exact hs hl

theorem immediateInv_tick {s : State} (hs : ImmediateInv s) : ImmediateInv (tick s) := by
  intro hl
  rw [tick_cfg] at hl
  have heq := hs hl
  unfold tick
  simp only [hl]
  split
  · split <;> exact heq
  · exact heq

/-- Settles O29: a command applies the registers at once, a tick reloads nothing under this latch, and reset puts
registers and copies at 0. -/
theorem immediateCopiesFollowRegisters : Obligations.ImmediateCopiesFollowRegisters := by
  unfold Obligations.ImmediateCopiesFollowRegisters
  intro s t hs h
  rcases step_generator h with hg | ⟨_, i, v, u, hv, _, _, hr, hu⟩ | ⟨_, rfl⟩ | ⟨_, rfl⟩
  · exact immediateInv_congr hg hs
  · exact immediateInv_congr hu (immediateInv_command (command_effect hr) (immediateInv_congr hv hs))
  · exact immediateInv_tick (immediateInv_congr (.takeTurn s) hs)
  · exact fun _ => ⟨rfl, rfl⟩

/-! ### No update is seen half made (R57) -/

/-- A command leaves the active copies or makes them the pair it installs. -/
theorem command_active {s t : State} (h : CommandEffect s t) :
    (t.perA = s.perA ∧ t.cmpA = s.cmpA) ∨ (t.perA = t.period ∧ t.cmpA = t.compare) := by
  cases hl : s.cfg.updateLatch with
  | immediate =>
    cases h with
    | initStopped | initRunning | setf | setd => simp [activeAfter_immediate hl]
    | _ => exact .inl ⟨rfl, rfl⟩
  | cycleBoundary =>
    cases h with
    | initStopped | initRunning | setf | setd => simp [activeAfter_cycleBoundary hl]
    | _ => exact .inl ⟨rfl, rfl⟩

/-- A tick leaves the active copies or loads the register pair (R180). -/
theorem tick_active (s : State) :
    ((tick s).perA = s.perA ∧ (tick s).cmpA = s.cmpA) ∨ ((tick s).perA = s.period ∧ (tick s).cmpA = s.compare) := by
  unfold tick
  split
  · split
    · split
      · exact .inr ⟨rfl, rfl⟩
      · exact .inl ⟨rfl, rfl⟩
    · exact .inl ⟨rfl, rfl⟩
  · exact .inl ⟨rfl, rfl⟩

end Sys2Proof.Machine
end

section
/-! PROOFS. The generator's two functions (40_pwm_generator.md R91 to R93, R99). -/

namespace Sys2Proof.Machine

/-! ### PeriodOf (R91) -/

/-- Where PeriodOf's checks pass it answers the quotient less one. -/
theorem periodOf_eq_ok {c : Config} {f : FreqWord} (hf : f ≠ 0) (hden : c.prescaler * f.toNat < 2 ^ c.arithWidth)
    (hquot : c.inputClockHz / (c.prescaler * f.toNat) ≠ 0)
    (hfit : c.inputClockHz / (c.prescaler * f.toNat) - 1 < 2 ^ c.counterWidth) :
    periodOf c f = .ok (c.inputClockHz / (c.prescaler * f.toNat) - 1) := by
  rcases periodOf_cases c f with ⟨h, _⟩ | ⟨_, h, _⟩ | ⟨_, _, h, _⟩ | ⟨_, _, _, _, e⟩
  · exact absurd h hf
  · exact absurd h (Nat.not_le_of_lt hden)
  · exact absurd hquot (by omega)
  · exact e

theorem freq_ne_zero_iff {f : FreqWord} : f ≠ 0 ↔ 0 < f.toNat := by
  rw [Nat.pos_iff_ne_zero, ne_eq, ne_eq, ← BitVec.toNat_inj]
  rfl

/-- Settles O10: the checks of PeriodOf are the conditions, and its quotient is the one the two inequalities fix. -/
theorem periodOfIsExactQuotient : Obligations.PeriodOfIsExactQuotient := by
  unfold Obligations.PeriodOfIsExactQuotient
  intro c f p
  constructor
  · intro h
    obtain ⟨hf, hden, hquot, hfit⟩ := periodOf_ok h
    have hpos : 0 < c.prescaler * f.toNat := Nat.pos_of_ne_zero fun h0 => by simp [h0] at hquot
    have hle := Nat.mul_div_le c.inputClockHz (c.prescaler * f.toNat)
    have hlt := Nat.lt_mul_div_succ c.inputClockHz hpos
    rw [hquot] at hle hlt
    exact ⟨freq_ne_zero_iff.mp hf, hden, hle, hlt, hfit⟩
  · rintro ⟨hf, hden, hle, hlt, hfit⟩
    have hquot : c.inputClockHz / (c.prescaler * f.toNat) = p + 1 :=
      Nat.div_eq_of_lt_le (by rwa [Nat.mul_comm]) (by rwa [Nat.mul_comm])
    have h := periodOf_eq_ok (freq_ne_zero_iff.mpr hf) hden (by omega) (by rw [hquot]; exact hfit)
    rwa [hquot] at h

/-- On this hardware the quotient of PeriodOf is 2000000 by the frequency. -/
theorem hw_quotient {c : Config} (h : HwArith c) (f : Nat) : c.inputClockHz / (c.prescaler * f) = 2000000 / f := by
  obtain ⟨hclock, hpre, _, _⟩ := h
  rw [hclock, hpre, ← Nat.div_div_eq_div_mul]

/-- On this hardware no denominator of PeriodOf overflows the arithmetic. -/
theorem hw_denominator_fits {c : Config} (h : HwArith c) (f : FreqWord) : c.prescaler * f.toNat < 2 ^ c.arithWidth := by
  obtain ⟨_, hpre, _, harith⟩ := h
  rw [hpre, harith]
  have := f.isLt
  omega

theorem periodOf_hw_ok {c : Config} {f : FreqWord} (h : HwArith c) (hf : 31 ≤ f.toNat) :
    periodOf c f = .ok (2000000 / f.toNat - 1) ∧ 2000000 / f.toNat ≠ 0 := by
  have hlow : 30 ≤ 2000000 / f.toNat := (Nat.le_div_iff_mul_le (by omega)).mpr (by have := f.isLt; omega)
  have hhigh : 2000000 / f.toNat ≤ 2000000 / 31 := Nat.div_le_div_left hf (by decide)
  have hw := h.2.2.1
  have hok := periodOf_eq_ok (freq_ne_zero_iff.mpr (by omega)) (hw_denominator_fits h f)
    (by rw [hw_quotient h]; omega) (by rw [hw_quotient h, hw]; omega)
  rw [hw_quotient h] at hok
  exact ⟨hok, by omega⟩

theorem periodOf_zero (c : Config) {f : FreqWord} (hf : f.toNat = 0) : periodOf c f = .error ⟨2, 0⟩ := by
  obtain rfl : f = 0 := BitVec.eq_of_toNat_eq hf
  rfl

theorem periodOf_hw_small {c : Config} {f : FreqWord} (h : HwArith c) (h1 : 1 ≤ f.toNat) (h30 : f.toNat ≤ 30) :
    periodOf c f = .error ⟨3, zextFreq f⟩ := by
  have hquot : 2000000 / 30 ≤ 2000000 / f.toNat := Nat.div_le_div_left h30 h1
  rcases periodOf_cases c f with ⟨h0, _⟩ | ⟨_, ho, _⟩ | ⟨_, _, _, e⟩ | ⟨_, _, _, hfit, _⟩
  · exact absurd h0 (freq_ne_zero_iff.mpr h1)
  · exact absurd ho (Nat.not_le_of_lt (hw_denominator_fits h f))
  · exact e
  · rw [hw_quotient h, h.2.2.1] at hfit
    omega

/-- Settles O11: the quotient 2000000 / f is from 1 to 65536 exactly for `31 <= f`; the ramp's table is computed. -/
theorem periodOfOnThisHardware : Obligations.PeriodOfOnThisHardware := by
  unfold Obligations.PeriodOfOnThisHardware
  refine ⟨fun c f h => ⟨fun hf => ?succeeds, periodOf_zero c, periodOf_hw_small h⟩, by decide⟩
  case succeeds =>
    obtain ⟨hok, hne⟩ := periodOf_hw_ok h hf
    exact ⟨_, hok, Nat.succ_pred_eq_of_ne_zero hne⟩

/-! ### CompareOf (R92, R93) -/

/-- Where CompareOf's checks pass it answers the truncated quotient. -/
theorem compareOf_eq_ok {c : Config} {p : Nat} {d : DutyWord} (hd : d.toNat ≤ 100)
    (hfit : p * d.toNat < 2 ^ c.arithWidth) : compareOf c p d = .ok (p * d.toNat / 100) := by
  rcases compareOf_cases c p d with ⟨h, _⟩ | ⟨_, h, _⟩ | ⟨_, _, e⟩
  · exact absurd h (Nat.not_lt_of_le hd)
  · exact absurd h (Nat.not_le_of_lt hfit)
  · exact e

/-- A duty up to 100 of a period whose hundredfold fits does not overflow. -/
theorem compareOf_of_period_fits {c : Config} {p : Nat} {d : DutyWord} (hfit : p * 100 < 2 ^ c.arithWidth)
    (hd : d.toNat ≤ 100) : compareOf c p d = .ok (p * d.toNat / 100) :=
  compareOf_eq_ok hd (Nat.lt_of_le_of_lt (Nat.mul_le_mul_left p hd) hfit)

theorem compareOf_duty_range (c : Config) (p : Nat) {d : DutyWord} (hd : 100 < d.toNat) :
    compareOf c p d = .error ⟨4, zextDuty d⟩ := by
  rcases compareOf_cases c p d with ⟨_, e⟩ | ⟨h, _⟩ | ⟨h, _⟩
  · exact e
  · exact absurd hd (Nat.not_lt_of_le h)
  · exact absurd hd (Nat.not_lt_of_le h)

/-- Settles O12: CompareOf answers the quotient `p * d / 100`, whose laws are those of division. -/
theorem compareOfLaws : Obligations.CompareOfLaws := by
  unfold Obligations.CompareOfLaws
  refine ⟨fun c p d hfit hd => ⟨p * d.toNat / 100, compareOf_of_period_fits hfit hd, compare_quotient_le hd, ?full,
    ?zero, ?monotone, rfl, ?lower, ?upper⟩, ?sixteen⟩
  case full => intro h; rw [h]; exact Nat.mul_div_cancel p (by decide)
  case zero => intro h; simp [h]
  case monotone =>
    intro q e u hpq hde hu
    obtain ⟨_, _, rfl, _⟩ := compareOf_ok hu
    exact Nat.div_le_div_right (Nat.mul_le_mul hpq hde)
  case lower => exact Nat.mul_div_le _ _
  case upper => exact Nat.lt_mul_div_succ _ (by decide)
  case sixteen =>
    intro c p hp hw ha
    have h16 : 2 ^ c.counterWidth ≤ 2 ^ 16 := Nat.pow_le_pow_right (by decide) hw
    rw [ha]
    omega

end Sys2Proof.Machine
end

section
/-! PROOFS. The commands (40_pwm_generator.md R94 to R98, 41_latches.md R121 to R123, 60_exceptions.md R171, R172):
what each answers, what all nine leave unchanged, and how a fault discards a command. -/

namespace Sys2Proof.Machine

/-! ### A command answers its rule's state or takes its rule's fault (R83) -/

theorem exec_of_commandResult_error {i : Instr} {s : State} {r : Raise} (hf : s.fault = 0)
    (hr : commandResult i s = .error r) : exec i s = .next (takeFault s r) := by
  rw [exec_eq_perform, hr]
  exact perform_error hf

theorem exec_faulted {s : State} (i : Instr) (hf : s.fault ≠ 0) : exec i s = .next s := by
  rw [exec_eq_perform]
  exact perform_faulted hf

theorem commandResult_init_ok {f : FreqWord} {d : DutyWord} {s : State} {p c : Nat} (hp : periodOf s.cfg f = .ok p)
    (hc : compareOf s.cfg p d = .ok c) : commandResult (.init f d) s = .ok (installPair p c s) := by
  simp only [commandResult, initResult, hp, hc]

theorem commandResult_init_period_error {f : FreqWord} {s : State} {r : Raise} (hp : periodOf s.cfg f = .error r)
    (d : DutyWord) : commandResult (.init f d) s = .error r := by
  simp only [commandResult, initResult, hp]

theorem commandResult_init_compare_error {f : FreqWord} {d : DutyWord} {s : State} {p : Nat} {r : Raise}
    (hp : periodOf s.cfg f = .ok p) (hc : compareOf s.cfg p d = .error r) :
    commandResult (.init f d) s = .error r := by
  simp only [commandResult, initResult, hp, hc]

theorem commandResult_setf_ok {f : FreqWord} {s : State} {p : Nat} (hp : periodOf s.cfg f = .ok p) :
    commandResult (.setf f) s = .ok (installPeriod p s) := by
  simp only [commandResult, setfResult, hp]

theorem commandResult_setf_error {f : FreqWord} {s : State} {r : Raise} (hp : periodOf s.cfg f = .error r) :
    commandResult (.setf f) s = .error r := by
  simp only [commandResult, setfResult, hp]

theorem commandResult_setd_ok {d : DutyWord} {s : State} {c : Nat} (hc : compareOf s.cfg s.period d = .ok c) :
    commandResult (.setd d) s = .ok (installCompare c s) := by
  simp only [commandResult, setdResult, hc]

theorem commandResult_setd_error {d : DutyWord} {s : State} {r : Raise}
    (hc : compareOf s.cfg s.period d = .error r) : commandResult (.setd d) s = .error r := by
  simp only [commandResult, setdResult, hc]

/-! ### INIT, SETF and SETD (R94 to R96) -/

/-- The record INIT leaves, for a running and a stopped counter. -/
theorem installPair_eq (p c : Nat) (s : State) :
    installPair p c s =
      if s.cen then
        { s with period := p, compare := c, ie := true,
                 perA := activeAfter s.cfg p s.perA, cmpA := activeAfter s.cfg c s.cmpA }
      else
        { s with period := p, compare := c, ie := true, cen := true, cnt := 0, perA := p, cmpA := c } := by
  split
  next h => exact installPair_running p c h
  next h => exact installPair_stopped p c (Bool.eq_false_iff.mpr h)

/-- Settles O14: INIT's record where both functions succeed, and the first fault otherwise. -/
theorem initInstallsPair : Obligations.InitInstallsPair := by
  unfold Obligations.InitInstallsPair
  intro f d s hf
  refine ⟨fun p c hp hc => ?installs, fun r hp => ?periodFault, fun p r hp hc => ?compareFault⟩
  case installs => rw [exec_of_commandResult_ok hf (commandResult_init_ok hp hc), installPair_eq]
  case periodFault => exact exec_of_commandResult_error hf (commandResult_init_period_error hp d)
  case compareFault => exact exec_of_commandResult_error hf (commandResult_init_compare_error hp hc)

/-- Settles O15: R172's order is that of INIT's two functions, whose faults this hardware's arithmetic fixes. -/
theorem initOnThisHardware : Obligations.InitOnThisHardware := by
  unfold Obligations.InitOnThisHardware
  intro f d s hf hw
  split
  next h0 => exact exec_of_commandResult_error hf (commandResult_init_period_error (periodOf_zero _ h0) d)
  split
  next h0 h30 =>
    exact exec_of_commandResult_error hf
      (commandResult_init_period_error (periodOf_hw_small hw (Nat.pos_of_ne_zero h0) h30) d)
  next h0 h30 =>
    have hp := (periodOf_hw_ok hw (Nat.lt_of_not_le h30)).1
    have hfit : (2000000 / f.toNat - 1) * 100 < 2 ^ s.cfg.arithWidth := by
      have : 2000000 / f.toNat ≤ 2000000 := Nat.div_le_self _ _
      rw [hw.2.2.2]
      omega
    split
    next hd =>
      exact exec_of_commandResult_error hf (commandResult_init_compare_error hp (compareOf_duty_range _ _ hd))
    next hd =>
      have hc := compareOf_of_period_fits hfit (Nat.le_of_not_lt hd)
      refine ⟨_, exec_of_commandResult_ok hf (commandResult_init_ok hp hc), ?_⟩
      cases hcen : s.cen
      · rw [installPair_stopped _ _ hcen]
        exact ⟨hf, rfl, rfl, rfl, rfl, fun _ => ⟨rfl, rfl, rfl⟩, nofun⟩
      · rw [installPair_running _ _ hcen]
        exact ⟨hf, rfl, rfl, rfl, hcen, nofun, fun _ => rfl⟩

/-- Settles O16: SETF's record where PeriodOf succeeds, and its fault otherwise. -/
theorem setfInstallsPeriod : Obligations.SetfInstallsPeriod := by
  unfold Obligations.SetfInstallsPeriod
  refine fun f s hf => ⟨fun p hp => ?installs, fun r hp => ?fault⟩
  case installs => rw [exec_of_commandResult_ok hf (commandResult_setf_ok hp), installPeriod_eq]
  case fault => exact exec_of_commandResult_error hf (commandResult_setf_error hp)

/-- Settles O17: SETD's record where CompareOf succeeds on the register `PERIOD`, its fault otherwise, and where each
is the case. -/
theorem setdInstallsCompare : Obligations.SetdInstallsCompare := by
  unfold Obligations.SetdInstallsCompare
  refine fun d s hf => ⟨fun c hc => ?installs, fun r hc => ?fault, fun hfit hd => ?completes, compareOf_duty_range _ _⟩
  case installs => rw [exec_of_commandResult_ok hf (commandResult_setd_ok hc), installCompare_eq]
  case fault => exact exec_of_commandResult_error hf (commandResult_setd_error hc)
  case completes => exact ⟨_, compareOf_of_period_fits hfit hd, rfl, compare_quotient_le hd⟩

/-! ### The read commands and TGLSTOP (R97, R98, R121, R123) -/

/-- Settles O18: each read command answers its register zero-extended, and a register within the widths of a valid
configuration is below `2^32`. -/
theorem readCommandsAnswerInResp : Obligations.ReadCommandsAnswerInResp := by
  unfold Obligations.ReadCommandsAnswerInResp
  refine ⟨by decide, by decide, by decide, fun s hf => ⟨?rdper, ?rdcmp, ?rdstop, fun hv hw => ⟨?period, ?compare⟩⟩⟩
  case rdper => exact exec_of_commandResult_ok hf rfl
  case rdcmp => exact exec_of_commandResult_ok hf rfl
  case rdstop => exact exec_of_commandResult_ok hf rfl
  case period => exact zextReg_toNat (widthInv_bounds hv hw).1
  case compare => exact zextReg_toNat (widthInv_bounds hv hw).2.1

/-- Settles O19: TGLSTOP's own rule, twice. -/
theorem tglstopInvertsStopLatch : Obligations.TglstopInvertsStopLatch := by
  unfold Obligations.TglstopInvertsStopLatch
  refine ⟨by decide, fun s hf => ⟨exec_of_commandResult_ok hf rfl, ?twice⟩⟩
  case twice =>
    have hr : commandResult .tglstop { s with stop := !s.stop } = .ok s := by simp [commandResult, State.setStop]
    exact exec_of_commandResult_ok (s := { s with stop := !s.stop }) hf hr

/-! ### What a command leaves unchanged (R20 to R33, R51) -/

/-- RampState, the histories, the harness, the parameters and the schedule, which no command writes. -/
structure IssuerKept (s t : State) : Prop where
  freq   : t.freq = s.freq
  duty   : t.duty = s.duty
  dir    : t.dir = s.dir
  run    : t.run = s.run
  trace  : t.trace = s.trace
  obslog : t.obslog = s.obslog
  mode   : t.mode = s.mode
  prog   : t.prog = s.prog
  hidx   : t.hidx = s.hidx
  cfg    : t.cfg = s.cfg
  sched  : t.sched = s.sched
  turn   : t.turn = s.turn

theorem takeFault_issuerKept (s : State) (r : Raise) : IssuerKept s (takeFault s r) := by constructor <;> simp

theorem command_issuerKept {s t : State} (h : CommandEffect s t) : IssuerKept s t := by
  cases h <;> constructor <;> rfl

/-- A command, whether it completes or faults, keeps what no command writes. -/
theorem exec_issuerKept {i : Instr} {s t : State} (h : exec i s = .next t) : IssuerKept s t := by
  rcases exec_inversion h with ⟨_, rfl⟩ | ⟨_, hr⟩ | ⟨_, r, _, rfl⟩
  · constructor <;> rfl
  · exact command_issuerKept (command_effect hr)
  · exact takeFault_issuerKept s r

/-- The registers that a command may write, each with the commands that write it (R51, 10_state.md). -/
structure WrittenByOwner (i : Instr) (s t : State) : Prop where
  ie      : t.ie = s.ie ∨ (∃ f d, i = .init f d)
  counter : t.cen = s.cen ∧ t.cnt = s.cnt ∨ (∃ f d, i = .init f d)
  period  : t.period = s.period ∨ (∃ f d, i = .init f d) ∨ (∃ f, i = .setf f)
  compare : t.compare = s.compare ∨ (∃ f d, i = .init f d) ∨ (∃ d, i = .setd d)
  active  : t.perA = s.perA ∧ t.cmpA = s.cmpA ∨ (∃ f d, i = .init f d) ∨
      ((∃ f, i = .setf f) ∨ (∃ d, i = .setd d)) ∧ s.cfg.updateLatch = .immediate
  resp    : t.resp = s.resp ∨ i = .rdper ∨ i = .rdcmp ∨ i = .rdstop
  stop    : t.stop = s.stop ∨ i = .clrstop ∨ i = .tglstop
  dirl    : t.dirl = s.dirl ∨ i = .tgldir

/-- A state that changes none of those registers. -/
theorem writtenByOwner_of_unchanged (i : Instr) {s t : State} (hie : t.ie = s.ie) (hcen : t.cen = s.cen)
    (hg : SameGenerator s t) (hresp : t.resp = s.resp) (hstop : t.stop = s.stop) (hdirl : t.dirl = s.dirl) :
    WrittenByOwner i s t :=
  ⟨.inl hie, .inl ⟨hcen, hg.cnt⟩, .inl hg.period, .inl hg.compare, .inl ⟨hg.perA, hg.cmpA⟩, .inl hresp, .inl hstop,
    .inl hdirl⟩

/-- The active copies follow a register's write under `IMMEDIATE` only (R183). -/
theorem activeAfter_unchanged_or_immediate (c : Config) (reg reg' act act' : Nat) :
    (activeAfter c reg act = act ∧ activeAfter c reg' act' = act') ∨ c.updateLatch = .immediate := by
  cases h : c.updateLatch
  · exact .inl ⟨activeAfter_cycleBoundary h _ _, activeAfter_cycleBoundary h _ _⟩
  · exact .inr rfl

theorem commandResult_writtenByOwner {i : Instr} {s t : State} (h : commandResult i s = .ok t) :
    WrittenByOwner i s t := by
  cases i with
  | init f d =>
    obtain ⟨p, c, _, _, ⟨_, rfl⟩ | ⟨_, rfl⟩⟩ := init_effect h <;> constructor <;> simp
  | setf f =>
    rcases setfResult_cases f s with ⟨p, _, e⟩ | ⟨_, _, e⟩ <;> simp only [commandResult, e] at h <;> cases h
    rw [installPeriod_eq]
    constructor <;> simp [activeAfter_unchanged_or_immediate]
  | setd d =>
    rcases setdResult_cases d s with ⟨c, _, e⟩ | ⟨_, _, e⟩ <;> simp only [commandResult, e] at h <;> cases h
    rw [installCompare_eq]
    constructor <;> simp [activeAfter_unchanged_or_immediate]
  | rdper | rdcmp | rdstop | clrstop | tglstop | tgldir => cases h; constructor <;> simp

theorem exec_writtenByOwner {i : Instr} {s t : State} (h : exec i s = .next t) : WrittenByOwner i s t := by
  rcases exec_inversion h with ⟨_, rfl⟩ | ⟨_, hr⟩ | ⟨_, r, _, rfl⟩
  · exact writtenByOwner_of_unchanged i rfl rfl (.refl _) rfl rfl rfl
  · exact commandResult_writtenByOwner hr
  · exact writtenByOwner_of_unchanged i (by simp) (by simp) (.takeFault s r) (by simp) (by simp) (by simp)

/-- A command that leaves `FAULT` leaves `FINFO` and `PH` too. -/
theorem exec_fault_record {i : Instr} {s t : State} (h : exec i s = .next t) (hf : t.fault = s.fault) :
    t.finfo = s.finfo ∧ t.ph = s.ph := by
  rcases exec_inversion h with ⟨_, rfl⟩ | ⟨_, hr⟩ | ⟨hs, r, hr, rfl⟩
  · exact ⟨rfl, rfl⟩
  · exact (commandResult_ok_fault hr).2
  · rw [(takeFault_records r hs).1, hs] at hf
    exact absurd hf (commandResult_error hr).1

/-- Settles O20: the fields no command writes, the fault record, and the writers of each register. -/
theorem commandFrame : Obligations.CommandFrame := by
  unfold Obligations.CommandFrame
  intro i s t h
  have k := exec_issuerKept h
  have w := exec_writtenByOwner h
  exact ⟨k.freq, k.duty, k.dir, k.run, k.trace, k.obslog, k.mode, k.prog, k.hidx, k.cfg, k.sched, k.turn,
    exec_fault_record h, w.ie, w.counter, w.period, w.compare, w.active, w.resp, w.stop, w.dirl⟩

/-! ### Faults (R90, R170, R171) -/

/-- Settles O21: a command that faults takes the fault on the state before it. -/
theorem faultingCommandIsPrecise : Obligations.FaultingCommandIsPrecise := by
  unfold Obligations.FaultingCommandIsPrecise
  intro i s t hf h ht
  rcases exec_inversion h with ⟨hs, _⟩ | ⟨_, hr⟩ | ⟨_, r, _, rfl⟩
  · exact absurd hf hs
  · exact absurd ((commandResult_ok_fault hr).1.trans hf) ht
  · rw [takeFault_eq r hf]

/-- Settles O22: R83's test comes before everything else. -/
theorem faultedBlockExecutesNothing : Obligations.FaultedBlockExecutesNothing :=
  fun _ hf => ⟨fun i => exec_faulted i hf, fun w => execWord_faulted w hf⟩

theorem periodOf_error_code {c : Config} {f : FreqWord} {r : Raise} (h : periodOf c f = .error r) :
    r.code = 2 ∨ r.code = 3 ∨ r.code = 5 := by
  rcases periodOf_cases c f with ⟨_, e⟩ | ⟨_, _, e⟩ | ⟨_, _, _, e⟩ | ⟨_, _, _, _, e⟩ <;> rw [e] at h <;> cases h
  · exact .inl rfl
  · exact .inr (.inr rfl)
  · exact .inr (.inl rfl)

theorem compareOf_error_code {c : Config} {p : Nat} {d : DutyWord} {r : Raise} (h : compareOf c p d = .error r) :
    r.code = 4 ∨ r.code = 5 := by
  rcases compareOf_cases c p d with ⟨_, e⟩ | ⟨_, _, e⟩ | ⟨_, _, e⟩ <;> rw [e] at h <;> cases h
  · exact .inl rfl
  · exact .inr rfl

/-- A command raises the codes of PeriodOf and CompareOf only (R170). -/
theorem commandResult_error_code {i : Instr} {s : State} {r : Raise} (h : commandResult i s = .error r) :
    r.code = 2 ∨ r.code = 3 ∨ r.code = 4 ∨ r.code = 5 := by
  have ofPeriod {f : FreqWord} (hp : periodOf s.cfg f = .error r) :
      r.code = 2 ∨ r.code = 3 ∨ r.code = 4 ∨ r.code = 5 := by
    rcases periodOf_error_code hp with e | e | e <;> simp [e]
  have ofCompare {p : Nat} {d : DutyWord} (hc : compareOf s.cfg p d = .error r) :
      r.code = 2 ∨ r.code = 3 ∨ r.code = 4 ∨ r.code = 5 := .inr (.inr (compareOf_error_code hc))
  cases i with
  | init f d =>
    rcases initResult_cases f d s with ⟨_, _, _, _, e⟩ | ⟨_, hr, e⟩ <;> simp only [commandResult, e] at h <;> cases h
    rcases hr with hp | ⟨_, _, hc⟩
    · exact ofPeriod hp
    · exact ofCompare hc
  | setf f =>
    rcases setfResult_cases f s with ⟨_, _, e⟩ | ⟨_, hp, e⟩ <;> simp only [commandResult, e] at h <;> cases h
    exact ofPeriod hp
  | setd d =>
    rcases setdResult_cases d s with ⟨_, _, e⟩ | ⟨_, hc, e⟩ <;> simp only [commandResult, e] at h <;> cases h
    exact ofCompare hc
  | _ => cases h

/-- Settles O23: a command leaves `FAULT`, or takes its rule's fault. -/
theorem everyCommandAnswersNext : Obligations.EveryCommandAnswersNext := by
  unfold Obligations.EveryCommandAnswersNext
  intro i s
  by_cases hf : s.fault = 0
  · rcases exec_cases (i := i) hf with ⟨t, _, ht, e⟩ | ⟨r, hr, _, e⟩
    · exact ⟨t, e, .inl (ht.trans hf.symm)⟩
    · exact ⟨_, e, .inr ((takeFault_records r hf).1 ▸ commandResult_error_code hr)⟩
  · exact ⟨s, exec_faulted i hf, .inl rfl⟩

end Sys2Proof.Machine
end

section
/-! PROOFS. The invariants of the block (10_state.md R20 to R33, 45_ramp_controller.md R135, R156, R162,
60_exceptions.md R170, R171): each is kept by a command's effect and by a phase's, and so by every step (`kept_by_steps`). -/

namespace Sys2Proof.Machine

/-! ### Register widths (R20) -/

/-- What an active copy holds after a command is the register or what it held, so it has their width. -/
theorem fits_activeAfter {c : Config} {w reg act : Nat} (hreg : fits w reg = true) (hact : fits w act = true) :
    fits w (activeAfter c reg act) = true := by
  unfold activeAfter
  split
  · exact hreg
  · exact hact

/-! The updates of fields of fixed width leave the invariant. -/

section
variable (s : State)

@[simp] theorem widthInv_respond (v : Word) : WidthInv (s.respond v) ↔ WidthInv s := Iff.rfl
@[simp] theorem widthInv_setStop (b : Bool) : WidthInv (s.setStop b) ↔ WidthInv s := Iff.rfl
@[simp] theorem widthInv_setDirl (b : Bool) : WidthInv (s.setDirl b) ↔ WidthInv s := Iff.rfl
@[simp] theorem widthInv_setDir (d : Direction) : WidthInv (s.setDir d) ↔ WidthInv s := Iff.rfl
@[simp] theorem widthInv_setRun (r : RunState) : WidthInv (s.setRun r) ↔ WidthInv s := Iff.rfl
@[simp] theorem widthInv_goto (p : Phase) : WidthInv (s.goto p) ↔ WidthInv s := Iff.rfl
@[simp] theorem widthInv_emit (es : List Event) : WidthInv (s.emit es) ↔ WidthInv s := Iff.rfl
@[simp] theorem widthInv_waitFor (w : WaitKind) : WidthInv (s.waitFor w) ↔ WidthInv s := Iff.rfl
@[simp] theorem widthInv_nextWord : WidthInv s.nextWord ↔ WidthInv s := Iff.rfl

@[simp] theorem widthInv_takeTurn : WidthInv (takeTurn s) ↔ WidthInv s := by
  simp [WidthInv, widthsHeld]

@[simp] theorem widthInv_takeFault (r : Raise) : WidthInv (takeFault s r) ↔ WidthInv s := by
  simp [WidthInv, widthsHeld]

end

theorem widthInv_command {s t : State} (h : CommandEffect s t) (hs : WidthInv s) : WidthInv t := by
  obtain ⟨hper, hcmp, hcnt, hperA, hcmpA, hfreq, hduty, hobs⟩ := widthInv_iff.mp hs
  cases h with
  | initRunning p c _ hp hc =>
    have hp := fits_iff.mpr hp
    have hc := fits_of_le hc hp
    exact widthInv_iff.mpr
      ⟨hp, hc, hcnt, fits_activeAfter hp hperA, fits_activeAfter hc hcmpA, hfreq, hduty, hobs⟩
  | initStopped p c _ hp hc =>
    have hp := fits_iff.mpr hp
    have hc := fits_of_le hc hp
    exact widthInv_iff.mpr ⟨hp, hc, fits_zero _, hp, hc, hfreq, hduty, hobs⟩
  | setf p hp =>
    have hp := fits_iff.mpr hp
    exact widthInv_iff.mpr
      ⟨hp, hcmp, hcnt, fits_activeAfter hp hperA, fits_activeAfter hcmp hcmpA, hfreq, hduty, hobs⟩
  | setd c hc =>
    have hc := fits_of_le hc hper
    exact widthInv_iff.mpr
      ⟨hper, hc, hcnt, fits_activeAfter hper hperA, fits_activeAfter hc hcmpA, hfreq, hduty, hobs⟩
  | _ => exact hs

theorem widthInv_setFreq {s : State} {f : Nat} (hf : f < 2 ^ s.cfg.freqWidth) (hs : WidthInv s) :
    WidthInv (s.setFreq f) := by
  obtain ⟨hper, hcmp, hcnt, hperA, hcmpA, _, hduty, hobs⟩ := widthInv_iff.mp hs
  exact widthInv_iff.mpr ⟨hper, hcmp, hcnt, hperA, hcmpA, fits_iff.mpr hf, hduty, hobs⟩

theorem widthInv_setDuty {s : State} {d : Nat} (hd : d < 2 ^ s.cfg.dutyWidth) (hs : WidthInv s) :
    WidthInv (s.setDuty d) := by
  obtain ⟨hper, hcmp, hcnt, hperA, hcmpA, hfreq, _, hobs⟩ := widthInv_iff.mp hs
  exact widthInv_iff.mpr ⟨hper, hcmp, hcnt, hperA, hcmpA, hfreq, fits_iff.mpr hd, hobs⟩

/-- The baseline of a valid configuration has the widths of RampState (R7, log 2). -/
theorem widthInv_setBaseline {s : State} (hv : configValid s.cfg = true) (hs : WidthInv s) :
    WidthInv (setBaseline s) := by
  obtain ⟨_, _, _, _, _, hf, _⟩ := configValid_cases hv
  obtain ⟨_, _, _, hd⟩ := configValid_widths hv
  exact widthInv_setDuty hd (widthInv_setFreq hf hs)

theorem widthInv_phase {s t : State} (hv : configValid s.cfg = true) (hs : WidthInv s) (h : PhaseEffect s t) :
    WidthInv t := by
  cases h with
  | boot u _ hu =>
    have hu := widthInv_command (command_effect hu) (by simpa using widthInv_setBaseline hv hs)
    simpa using hu
  | raise p _ _ hfit _ hu =>
    have hu := widthInv_command (command_effect hu) hs
    have hset := widthInv_setFreq (f := s.freq + s.cfg.fStep) (by simpa [installPeriod_eq] using hfit) hu
    simpa using hset
  | repairStep c _ hle _ hu =>
    have hfit : s.duty - s.cfg.dStep < 2 ^ s.cfg.dutyWidth :=
      Nat.lt_of_le_of_lt (Nat.sub_le _ _) (fits_iff.mp (widthInv_iff.mp hs).2.2.2.2.2.2.1)
    have hu := widthInv_command (command_effect hu) hs
    have hset := widthInv_setDuty (d := s.duty - s.cfg.dStep) (by simpa [installCompare_eq] using hfit) hu
    simpa using hset
  | ceilReset u _ hu =>
    have hcfg : u.cfg = s.cfg := (command_issuerKept (command_effect hu)).cfg
    have hset := widthInv_setBaseline (by rw [hcfg]; exact hv) (widthInv_command (command_effect hu) hs)
    simpa using hset
  | _ => simpa using hs

theorem widthInv_tick {s : State} (hs : WidthInv s) : WidthInv (tick s) := by
  obtain ⟨hper, hcmp, hcnt, hperA, hcmpA, hfreq, hduty, hobs⟩ := widthInv_iff.mp hs
  unfold tick
  split
  · split
    · split
      · exact widthInv_iff.mpr ⟨hper, hcmp, fits_zero _, hper, hcmp, hfreq, hduty, hobs⟩
      · exact widthInv_iff.mpr ⟨hper, hcmp, fits_zero _, hperA, hcmpA, hfreq, hduty, hobs⟩
    next htop =>
      have hlt : s.cnt + 1 ≤ s.perA := Nat.lt_of_not_le (by simpa [atTop] using htop)
      exact widthInv_iff.mpr ⟨hper, hcmp, fits_of_le hlt hperA, hperA, hcmpA, hfreq, hduty, hobs⟩
  · exact hs

theorem widthInv_observePair {s : State} (hs : WidthInv s) : WidthInv s.observePair := by
  obtain ⟨hper, hcmp, hcnt, hperA, hcmpA, hfreq, hduty, hobs⟩ := widthInv_iff.mp hs
  refine widthInv_iff.mpr ⟨hper, hcmp, hcnt, hperA, hcmpA, hfreq, hduty, fun e he => ?_⟩
  rcases List.mem_append.mp he with he | he
  · exact hobs e he
  · obtain rfl := List.mem_singleton.mp he
    exact ⟨hper, hcmp⟩

theorem widthInv_hostReset {s : State} (hv : configValid s.cfg = true) : WidthInv (hostReset s) := by
  obtain ⟨_, _, _, _, _, hf, _⟩ := configValid_cases hv
  obtain ⟨_, _, _, hd⟩ := configValid_widths hv
  exact widthInv_iff.mpr ⟨fits_zero _, fits_zero _, fits_zero _, fits_zero _, fits_zero _, fits_iff.mpr hf,
    fits_iff.mpr hd, nofun⟩

/-- The widths are kept by every step of every agent. -/
theorem widthInv_step {s t : State} (hs : WidthInv s) (h : step s = .next t) : WidthInv t :=
  kept_by_steps (P := WidthInv) (fun _ hs => by simpa using hs) (fun _ hs => by simpa using hs)
    (fun _ _ _ _ hs he => widthInv_command he hs) (fun _ _ hv _ _ hs he => widthInv_phase hv hs he)
    (fun _ _ _ _ hs _ _ => by simpa using hs) (fun _ => widthInv_tick) (fun _ _ hs => by simpa using hs)
    (fun _ => widthInv_observePair) (fun _ => widthInv_hostReset) hs h

/-- Settles O32: every value a rule stores is checked against its width or is at most a stored one. -/
theorem registerWidthsKept : Obligations.RegisterWidthsKept := fun _ _ => widthInv_step

/-! ### What a phase leaves unchanged -/

/-- Every phase keeps `OBSLOG`, the harness, the parameters and the schedule. -/
structure PhaseKept (s t : State) : Prop where
  obslog : t.obslog = s.obslog
  mode   : t.mode = s.mode
  prog   : t.prog = s.prog
  hidx   : t.hidx = s.hidx
  cfg    : t.cfg = s.cfg
  sched  : t.sched = s.sched
  turn   : t.turn = s.turn

theorem IssuerKept.phaseKept {s t : State} (h : IssuerKept s t) : PhaseKept s t :=
  ⟨h.obslog, h.mode, h.prog, h.hidx, h.cfg, h.sched, h.turn⟩

theorem PhaseKept.trans {s t u : State} (h : PhaseKept s t) (h' : PhaseKept t u) : PhaseKept s u :=
  ⟨h'.obslog.trans h.obslog, h'.mode.trans h.mode, h'.prog.trans h.prog, h'.hidx.trans h.hidx, h'.cfg.trans h.cfg,
    h'.sched.trans h.sched, h'.turn.trans h.turn⟩

theorem phase_kept {s t : State} (h : PhaseEffect s t) : PhaseKept s t := by
  have ofCommand {i : Instr} {v u : State} (hu : commandResult i v = .ok u) : PhaseKept v u :=
    (command_issuerKept (command_effect hu)).phaseKept
  cases h with
  | fault r => exact (takeFault_issuerKept s r).phaseKept
  | boot u _ hu =>
    have hstart : PhaseKept s (((setBaseline s).setDir .forward).setRun .running) := by
      constructor <;> simp [setBaseline]
    exact (hstart.trans (ofCommand hu)).trans (by constructor <;> simp)
  | raise p _ _ _ _ hu => exact (ofCommand hu).trans (by constructor <;> simp)
  | repairStep c _ _ _ hu => exact (ofCommand hu).trans (by constructor <;> simp)
  | ceilReset u _ hu => exact (ofCommand hu).trans (by constructor <;> simp [setBaseline])
  | _ => constructor <;> simp

/-! ### The report invariant (R162) -/

theorem reportInv_of_le {s : State} (h : s.compare ≤ s.period) : ReportInv s := fun _ _ _ _ => h

/-- The report invariant is about four fields: two states that agree on them share it. -/
theorem reportInv_congr {s t : State} (hs : ReportInv s) (hmode : t.mode = s.mode) (hph : t.ph = s.ph)
    (hperiod : t.period = s.period) (hcompare : t.compare = s.compare) : ReportInv t := by
  unfold ReportInv
  rw [hmode, hph, hperiod, hcompare]
  exact hs

theorem reportInv_harness {s : State} (h : s.mode = .harness) : ReportInv s := fun hm => by simp [h] at hm

theorem init_compare_le_period {f : FreqWord} {d : DutyWord} {s t : State} (h : commandResult (.init f d) s = .ok t) :
    t.compare ≤ t.period := by
  obtain ⟨p, c, _, hle, ⟨_, rfl⟩ | ⟨_, rfl⟩⟩ := init_effect h
  · exact hle
  · exact hle

/-- INIT establishes `COMPARE <= PERIOD`, the repair loop is left only with it, and outside the loop no phase writes
either register. -/
theorem reportInv_phase {s t : State} (hv : configValid s.cfg = true) (hm : s.mode = .controller) (hw : WidthInv s)
    (hs : ReportInv s) (h : PhaseEffect s t) : ReportInv t := by
  have outside (h1 : s.ph ≠ .repairCheck) (h2 : s.ph ≠ .repairStep) (h3 : s.ph ≠ .halted) : s.compare ≤ s.period :=
    hs hm h1 h2 h3
  cases h with
  | halted => exact hs
  | fault r => exact fun _ _ _ hh => absurd (takeFault_ph_controller r hm) hh
  | boot u _ hu =>
    have hle := init_compare_le_period hu
    exact reportInv_of_le (by simpa using hle)
  | ceilReset u _ hu =>
    have hle := init_compare_le_period hu
    exact reportInv_of_le (by simpa [setBaseline] using hle)
  | raise => exact fun _ hc => absurd (goto_ph _ _) hc
  | repairStep => exact fun _ hc => absurd (goto_ph _ _) hc
  | repairCheck hph =>
    rw [compareExceeds_registers hv hw]
    by_cases hgt : s.compare > s.period
    · rw [if_pos (decide_eq_true hgt)]
      exact fun _ _ hc => absurd (goto_ph _ _) hc
    · exact reportInv_of_le (by simpa using hgt)
  | report hph | sampleStopped hph | sampleRunning hph | cooldown hph | restart hph | wait hph | atCeiling hph
  | ceilStop hph | ceilDir hph | settle hph =>
    exact reportInv_of_le (by simpa using outside (by simp [hph]) (by simp [hph]) (by simp [hph]))

/-- Settles O48: together with the widths, which make the repair test compare the registers themselves. -/
theorem reportInvariantKept : Obligations.ReportInvariantKept := by
  unfold Obligations.ReportInvariantKept
  intro s t hw hs h
  have both : WidthInv t ∧ ReportInv t := by
    refine kept_by_steps (P := fun s => WidthInv s ∧ ReportInv s) ?turn ?word ?command ?phase ?fault ?tick ?stop ?obs
      ?reset ⟨hw, hs⟩ h
    case turn =>
      exact fun s hs => ⟨by simpa using hs.1, reportInv_congr hs.2 (by simp) (by simp) (by simp) (by simp)⟩
    case word => exact fun s hs => ⟨by simpa using hs.1, hs.2⟩
    case command =>
      exact fun s t hm _ hs he =>
        ⟨widthInv_command he hs.1, reportInv_harness ((command_issuerKept he).mode.trans hm)⟩
    case phase => exact fun s t hv hm _ hs he => ⟨widthInv_phase hv hs.1 he, reportInv_phase hv hm hs.1 hs.2 he⟩
    case fault =>
      exact fun s r hm _ hs _ _ => ⟨by simpa using hs.1, reportInv_harness ((takeFault_mode s r).trans hm)⟩
    case tick => exact fun s hs => ⟨widthInv_tick hs.1, reportInv_congr hs.2 (by simp) (by simp) (by simp) (by simp)⟩
    case stop => exact fun s b hs => ⟨by simpa using hs.1, hs.2⟩
    case obs => exact fun s hs => ⟨widthInv_observePair hs.1, hs.2⟩
    case reset => exact fun s hv => ⟨widthInv_hostReset hv, reportInv_of_le (Nat.le_refl 0)⟩
  exact both.2

/-! ### `DIR` mirrors `DIRL` (R28) -/

theorem directionInv_congr {s t : State} (hs : DirectionInv s) (hmode : t.mode = s.mode) (hdir : t.dir = s.dir)
    (hdirl : t.dirl = s.dirl) (hph : t.ph = s.ph) : DirectionInv t := by
  unfold DirectionInv
  rw [hmode, hdir, hdirl, hph]
  exact hs

theorem directionInv_harness {s : State} (h : s.mode = .harness) : DirectionInv s := fun hm => by simp [h] at hm

theorem init_dirl {f : FreqWord} {d : DutyWord} {s t : State} (h : commandResult (.init f d) s = .ok t) :
    t.dirl = s.dirl := by
  obtain ⟨_, _, _, _, ⟨_, rfl⟩ | ⟨_, rfl⟩⟩ := init_effect h <;> rfl

/-- A phase after which the direction and its latch still agree keeps the invariant, as none leads back to P_BOOT. -/
theorem directionInv_of_agree {s : State} (h : s.dir = .reverse ↔ s.dirl = true) (hph : s.ph ≠ .boot) :
    DirectionInv s := fun _ => ⟨h, fun hb => absurd hb hph⟩

theorem flipDirection_reverse_iff (d : Direction) (b : Bool) (h : d = .reverse ↔ b = true) :
    flipDirection d = .reverse ↔ (!b) = true := by
  cases d <;> cases b <;> simp_all [flipDirection]

theorem directionInv_phase {s t : State} (hm : s.mode = .controller) (hs : DirectionInv s) (h : PhaseEffect s t) :
    DirectionInv t := by
  obtain ⟨hagree, hboot⟩ := hs hm
  cases h with
  | halted => exact hs
  | fault r =>
    refine directionInv_of_agree ?_ (by simp [takeFault_ph_controller r hm])
    simpa using hagree
  | boot u hph hu =>
    have hdirl : u.dirl = false := by rw [init_dirl hu]; simpa [setBaseline] using hboot hph
    have hdir : u.dir = .forward := by rw [(command_issuerKept (command_effect hu)).dir]; simp
    exact directionInv_of_agree (by simp [hdirl, hdir]) (by simp)
  | ceilReset u _ hu =>
    have hdirl : u.dirl = s.dirl := init_dirl hu
    have hdir : u.dir = s.dir := (command_issuerKept (command_effect hu)).dir
    exact directionInv_of_agree (by simpa [setBaseline, hdirl, hdir] using hagree) (by simp)
  | raise p => exact directionInv_of_agree (by simpa [installPeriod_eq] using hagree) (by simp)
  | repairStep c => exact directionInv_of_agree (by simpa [installCompare_eq] using hagree) (by simp)
  | repairCheck => exact directionInv_of_agree (by simpa using hagree) (by rw [goto_ph]; split <;> nofun)
  | ceilDir => exact directionInv_of_agree (by simpa using flipDirection_reverse_iff _ _ hagree) (by simp)
  | _ => exact directionInv_of_agree (by simpa using hagree) (by simp)

/-- Settles O49: P_BOOT writes Forward over a Forward latch, P_CEIL_DIR flips both, and no other CTRL step writes
either. -/
theorem directionReflectionKept : Obligations.DirectionReflectionKept := by
  unfold Obligations.DirectionReflectionKept
  intro s t hs h
  refine kept_by_steps (P := DirectionInv) ?turn (fun s hs => hs) ?command
    (fun s t _ hm _ hs he => directionInv_phase hm hs he) ?fault ?tick (fun s b hs => hs) (fun s hs => hs) ?reset hs h
  case turn => exact fun s hs => directionInv_congr hs (by simp) (by simp) (by simp) (by simp)
  case command => exact fun s t hm _ _ he => directionInv_harness ((command_issuerKept he).mode.trans hm)
  case fault => exact fun s r hm _ _ _ _ => directionInv_harness ((takeFault_mode s r).trans hm)
  case tick => exact fun s hs => directionInv_congr hs (by simp) (by simp) (by simp) (by simp)
  case reset => exact fun s _ _ => ⟨by simp, fun _ => rfl⟩

/-! ### `DUTY` stays within 100 (R156) -/

theorem dutyInv_phase {s t : State} (hv : configValid s.cfg = true) (hs : DutyInv s) (h : PhaseEffect s t) :
    DutyInv t := by
  obtain ⟨_, _, _, _, hbase, _⟩ := configValid_cases hv
  have ofCommand {i : Instr} {v u : State} (hu : commandResult i v = .ok u) : u.duty = v.duty ∧ u.cfg = v.cfg :=
    have k := command_issuerKept (command_effect hu)
    ⟨k.duty, k.cfg⟩
  cases h with
  | fault r => exact (takeFault_duty s r).trans_le hs
  | boot u _ hu => simpa [(ofCommand hu).1, setBaseline] using hbase
  | raise p _ _ _ _ hu => simpa [(ofCommand hu).1] using hs
  | repairStep c => simpa using Nat.le_trans (Nat.sub_le s.duty s.cfg.dStep) hs
  | ceilReset u _ hu => simpa [(ofCommand hu).2, setBaseline] using hbase
  | _ => simpa using hs

/-- Settles O50: `DUTY` takes the baseline, which R7 bounds, or is lowered. -/
theorem dutyWithinPercentKept : Obligations.DutyWithinPercentKept := by
  unfold Obligations.DutyWithinPercentKept
  intro s t hs h
  refine kept_by_steps (P := DutyInv) ?turn (fun s hs => hs) ?command
    (fun s t hv _ _ hs he => dutyInv_phase hv hs he) ?fault ?tick (fun s b hs => hs) (fun s hs => hs) ?reset hs h
  case turn => exact fun s hs => (takeTurn_duty s).trans_le hs
  case command => exact fun s t _ _ hs he => (command_issuerKept he).duty.trans_le hs
  case fault => exact fun s r _ _ hs _ _ => (takeFault_duty s r).trans_le hs
  case tick => exact fun s hs => (tick_duty s).trans_le hs
  case reset =>
    intro s hv
    obtain ⟨_, _, _, _, hbase, _⟩ := configValid_cases hv
    exact hbase

/-! ### The fault record (R31, R135, R170, R171) -/

theorem faultInv_congr {s t : State} (hs : FaultInv s) (hfault : t.fault = s.fault) (hfinfo : t.finfo = s.finfo)
    (hmode : t.mode = s.mode) (hph : t.ph = s.ph) : FaultInv t := by
  unfold FaultInv
  rw [hfault, hfinfo, hmode, hph]
  exact hs

/-- A taken fault has a code of R170 and halts CTRL if CTRL issued. -/
theorem faultInv_takeFault {s : State} {r : Raise} (hf : s.fault = 0) (hne : r.code ≠ 0) (hle : r.code.toNat ≤ 7) :
    FaultInv (takeFault s r) := by
  obtain ⟨hfault, _⟩ := takeFault_records r hf
  unfold FaultInv
  rw [hfault, takeFault_mode]
  exact ⟨hle, fun h => absurd h hne, fun hm => ⟨fun _ => hne, fun _ => takeFault_ph_controller r hm⟩⟩

/-- Without a fault and outside P_HALTED the record is consistent. -/
theorem faultInv_running {t : State} (hf : t.fault = 0) (hi : t.finfo = 0) (hph : t.ph ≠ .halted) : FaultInv t :=
  ⟨by simp [hf], fun _ => hi, fun _ => ⟨fun h => absurd h hph, fun h => absurd hf h⟩⟩

theorem faultInv_command {s t : State} (h : CommandEffect s t) (hs : FaultInv s) : FaultInv t := by
  cases h <;> exact hs

theorem faultInv_phase {s t : State} (hf : s.fault = 0) (hs : FaultInv s) (h : PhaseEffect s t) : FaultInv t := by
  have hi : s.finfo = 0 := hs.2.1 hf
  have ofCommand {i : Instr} {v u : State} (hu : commandResult i v = .ok u) (hvf : v.fault = s.fault)
      (hvi : v.finfo = s.finfo) : u.fault = 0 ∧ u.finfo = 0 := by
    obtain ⟨h1, h2, _⟩ := commandResult_ok_fault hu
    exact ⟨h1.trans (hvf.trans hf), h2.trans (hvi.trans hi)⟩
  cases h with
  | halted => exact hs
  | fault r hne hle => exact faultInv_takeFault hf hne hle
  | boot u _ hu =>
    obtain ⟨h1, h2⟩ := ofCommand hu (by simp [setBaseline]) (by simp [setBaseline])
    exact faultInv_running (by simpa using h1) (by simpa using h2) (by simp)
  | raise p _ _ _ _ hu | repairStep c _ _ _ hu | ceilReset u _ hu =>
    obtain ⟨h1, h2⟩ := ofCommand hu rfl rfl
    exact faultInv_running (by simpa [setBaseline] using h1) (by simpa [setBaseline] using h2) (by simp)
  | repairCheck =>
    exact faultInv_running (by simpa using hf) (by simpa using hi) (by rw [goto_ph]; split <;> nofun)
  | _ => exact faultInv_running (by simpa using hf) (by simpa using hi) (by simp)

/-- Settles O51: a fault is taken with a legal code and halts CTRL, and no phase leads to P_HALTED without one. -/
theorem faultRecordKept : Obligations.FaultRecordKept := by
  unfold Obligations.FaultRecordKept
  intro s t hs h
  refine kept_by_steps (P := FaultInv) ?turn (fun s hs => hs) (fun s t _ _ hs he => faultInv_command he hs)
    (fun s t _ _ hf hs he => faultInv_phase hf hs he) (fun s r _ hf _ hne hle => faultInv_takeFault hf hne hle) ?tick
    (fun s b hs => hs) (fun s hs => hs) ?reset hs h
  case turn => exact fun s hs => faultInv_congr hs (by simp) (by simp) (by simp) (by simp)
  case tick => exact fun s hs => faultInv_congr hs (by simp) (by simp) (by simp) (by simp)
  case reset => exact fun s _ => faultInv_running rfl rfl nofun

/-! ### The invariants at reset (R210) -/

/-- Settles O52: at reset the registers are 0 and RampState holds the baseline, which R7 and the widths bound. -/
theorem invariantsHoldAtReset : Obligations.InvariantsHoldAtReset := by
  unfold Obligations.InvariantsHoldAtReset
  rintro c m words sched s hv rfl
  obtain ⟨_, _, _, _, hbase, hf, _⟩ := configValid_cases hv
  obtain ⟨_, _, _, hd⟩ := configValid_widths hv
  refine ⟨widthInv_iff.mpr ?widths, reportInv_of_le (Nat.le_refl 0), fun _ => Nat.le_refl 0, fun _ => ⟨rfl, rfl⟩,
    fun _ => ⟨?direction, fun _ => rfl⟩, hbase, faultInv_running rfl rfl nofun⟩
  case widths =>
    exact ⟨fits_zero _, fits_zero _, fits_zero _, fits_zero _, fits_zero _, fits_iff.mpr hf, fits_iff.mpr hd, nofun⟩
  case direction => simp [State.powerOn]

/-! ### No update is seen half made (R57) -/

/-- Everything a step can do to `OBSLOG` (R190). -/
theorem step_obslog {s t : State} (h : step s = .next t) :
    t.obslog = s.obslog ∨ t.obslog = s.obslog ++ [(s.period, s.compare)] ∨
      (dueMove s = .hostReset ∧ t.obslog = []) := by
  have turn : (takeTurn s).obslog = s.obslog := takeTurn_obslog s
  have after (u : State) : (afterWord u).obslog = u.obslog := by
    rcases afterWord_cases u with e | e <;> rw [e]
    rfl
  cases (step_effect h).2 with
  | controllerStopped | harnessStopped => exact .inl turn
  | controller _ _ _ _ he => exact .inl ((phase_kept he).obslog.trans turn)
  | harnessCommand w i u _ _ _ _ _ hx => exact .inl ((after u).trans ((exec_issuerKept hx).obslog.trans turn))
  | harnessIllegal w => exact .inl ((after _).trans ((takeFault_obslog _ _).trans turn))
  | tick => exact .inl ((tick_obslog _).trans turn)
  | extAssert => exact .inl turn
  | extDeassert =>
    unfold extDeassert
    split <;> exact .inl turn
  | observe =>
    unfold obsRead
    split
    · exact .inr (.inl (by simp))
    · exact .inl turn
  | hostReset hd => exact .inr (.inr ⟨hd, rfl⟩)

/-- Settles O35: what a step does to `OBSLOG`, and the four ways it changes the generator. -/
theorem updatesAreGlitchFree : Obligations.UpdatesAreGlitchFree := by
  unfold Obligations.UpdatesAreGlitchFree
  intro s t h
  refine ⟨step_obslog h, ?_⟩
  rcases step_generator h with hg | ⟨hd, i, v, u, hv, hvf, hv0, hr, hu⟩ | ⟨_, rfl⟩ | ⟨hd, rfl⟩
  · exact ⟨.inl ⟨hg.perA, hg.cmpA⟩, .inl ⟨hg.period, hg.compare⟩⟩
  · refine ⟨?active, .inr (.inr ⟨hd, i, v, u, hv.period, hv.compare, hv.cfg, hvf, exec_of_commandResult_ok hv0 hr,
      (commandResult_ok_fault hr).1.trans hv0, hu.period, hu.compare⟩)⟩
    case active =>
      rw [hu.perA, hu.cmpA, hu.period, hu.compare, ← hv.perA, ← hv.cmpA]
      exact command_active (command_effect hr)
  · have hactive := tick_active (takeTurn s)
    simp only [takeTurn_perA, takeTurn_cmpA, takeTurn_period, takeTurn_compare] at hactive
    exact ⟨by simpa using hactive, .inl ⟨by simp, by simp⟩⟩
  · exact ⟨.inr ⟨rfl, rfl⟩, .inr (.inl ⟨hd, rfl, rfl⟩)⟩

end Sys2Proof.Machine
end

section
/-! PROOFS. One step of each agent (30_encoding.md R83, R84; 60_exceptions.md R171 to R190;
70_reset_and_hazards.md R210) and what a step leaves unchanged, by the agent whose turn it is. -/

namespace Sys2Proof.Machine

/-! ### The configuration (R7) -/

/-- Every phase answers a next state: its own effect, or the fault it takes. -/
theorem ctrlStep_next (s : State) : ∃ t, ctrlStep s = .next t := by
  by_cases hf : s.fault = 0
  · rw [ctrlStep_phase hf]
    cases s.ph with
    | boot => rcases phaseBoot_cases hf with ⟨_, _, e⟩ | ⟨_, _, _, e⟩ <;> exact ⟨_, e⟩
    | report => exact ⟨_, phaseReport_eq hf⟩
    | sample => exact ⟨_, phaseSample_eq hf⟩
    | restart => exact ⟨_, phaseRestart_eq hf⟩
    | decide => rcases phaseDecide_cases hf with ⟨_, e⟩ | ⟨_, _, _, _, e⟩ | ⟨_, _, _, _, _, e⟩ <;> exact ⟨_, e⟩
    | repairCheck => exact ⟨_, phaseRepairCheck_eq hf⟩
    | repairStep => rcases phaseRepairStep_cases hf with ⟨_, _, _, e⟩ | ⟨_, _, _, _, e⟩ <;> exact ⟨_, e⟩
    | ceilStop => exact ⟨_, phaseCeilStop_eq hf⟩
    | ceilReset => rcases phaseCeilReset_cases hf with ⟨_, _, e⟩ | ⟨_, _, _, e⟩ <;> exact ⟨_, e⟩
    | ceilDir => exact ⟨_, phaseCeilDir_eq hf⟩
    | cooldown | wait | settle | halted => exact ⟨_, rfl⟩
  · exact ⟨s, ctrlStep_faulted hf⟩

theorem harnessStep_next (s : State) : ∃ t, harnessStep s = .next t := by
  rcases harnessStep_cases s with ⟨_, e⟩ | ⟨_, _, _, ⟨_, _, _, _, e⟩ | ⟨_, _, e⟩⟩ <;> exact ⟨_, e⟩

theorem agentStep_next (m : Move) (s : State) : ∃ t, agentStep m s = .next t := by
  cases m with
  | issuer =>
    show ∃ t, issuerStep s = .next t
    cases hm : s.mode with
    | controller => exact issuerStep_controller hm ▸ ctrlStep_next s
    | harness    => exact issuerStep_harness hm ▸ harnessStep_next s
  | _ => exact ⟨_, rfl⟩

/-- Settles O9: under a valid configuration the step is an agent's, and every agent answers. -/
theorem stepAnswersNextUnlessConfigRefused : Obligations.StepAnswersNextUnlessConfigRefused := by
  unfold Obligations.StepAnswersNextUnlessConfigRefused
  refine fun s => ⟨fun hw hc => ?answers, step_badConfig, step_widthMismatch⟩
  case answers =>
    rw [step_valid (by simp [configValid, hw, hc])]
    exact agentStep_next _ _

/-! ### The harness (R83, R84) -/

theorem step_of_harnessTurn {s : State} (h : HarnessTurn s) : step s = harnessStep (takeTurn s) := by
  obtain ⟨hv, hd, hm, _⟩ := h
  rw [step_valid hv, hd]
  exact issuerStep_harness ((takeTurn_mode s).trans hm)

/-- A harness at its end, or stopped by a fault, takes no step. -/
theorem harnessStep_stopped {s : State} (h : s.fault ≠ 0 ∨ s.prog.length ≤ s.hidx) : harnessStep s = .next s := by
  rcases harnessStep_cases s with ⟨_, e⟩ | ⟨hf, w, hw, _⟩
  · exact e
  · rcases h with hne | hend
    · exact absurd hf hne
    · rw [List.getElem?_eq_none hend] at hw
      cases hw

/-- On its turn the harness executes the word at its index. -/
theorem harnessStep_word {s : State} {w : Word} (hf : s.fault = 0) (hw : s.prog[s.hidx]? = some w) :
    ∃ t, execWord w s = .next t ∧ harnessStep s = .next (afterWord t) := by
  rcases harnessStep_cases s with ⟨hstop, _⟩ | ⟨_, w', hw', h⟩
  · have hlt : s.hidx < s.prog.length := (List.getElem?_eq_some_iff.mp hw).1
    exact absurd hstop (by simp [hf, hlt])
  · obtain rfl : w = w' := Option.some.inj (hw.symm.trans hw')
    rcases h with ⟨i, t, hdec, hex, h⟩ | ⟨e, hdec, h⟩
    · exact ⟨t, (execWord_command hf hdec).trans hex, h⟩
    · exact ⟨_, execWord_illegal hf hdec, h⟩

/-- The index moves on unless the word faulted (log 8). -/
theorem afterWord_eq (t : State) : afterWord t = if t.fault = 0 then { t with hidx := t.hidx + 1 } else t := rfl

/-- Settles O7: the harness's step executes its word, which is the command the word decodes to. -/
theorem stepRunsDecodedCommand : Obligations.StepRunsDecodedCommand := by
  unfold Obligations.StepRunsDecodedCommand
  intro s w i hturn hw hdec
  have hf : (takeTurn s).fault = 0 := (takeTurn_fault s).trans hturn.2.2.2
  obtain ⟨t, hex, hstep⟩ := harnessStep_word hf (w := w) (by simpa using hw)
  refine ⟨t, (execWord_command hf hdec).symm.trans hex, ?_⟩
  rw [step_of_harnessTurn hturn, hstep, afterWord_eq]

/-- Settles O8: an illegal word takes its fault, after which the index stays; a stopped harness changes nothing. -/
theorem harnessStopsAtFaultOrEnd : Obligations.HarnessStopsAtFaultOrEnd := by
  unfold Obligations.HarnessStopsAtFaultOrEnd
  refine ⟨fun s w e hturn hw hdec => ?illegal, fun s hv hd hm hstop => ?stopped⟩
  case illegal =>
    have hf : (takeTurn s).fault = 0 := (takeTurn_fault s).trans hturn.2.2.2
    have hm : (takeTurn s).mode = .harness := (takeTurn_mode s).trans hturn.2.2.1
    obtain ⟨t, hex, hstep⟩ := harnessStep_word hf (w := w) (by simpa using hw)
    rw [execWord_illegal hf hdec, takeFault_harness _ hf hm] at hex
    cases hex
    rw [step_of_harnessTurn hturn, hstep]
    rfl
  case stopped =>
    rw [step_valid hv, hd]
    show issuerStep (takeTurn s) = _
    rw [issuerStep_harness ((takeTurn_mode s).trans hm)]
    exact harnessStep_stopped (by simpa using hstop)

/-! ### The counter, EXT, OBS and the host (R180, R186, R190, R210) -/

/-- On another agent's turn the step is that agent's. -/
theorem step_of_due {s : State} {m : Move} (hv : configValid s.cfg = true) (hd : dueMove s = m) :
    step s = agentStep m (takeTurn s) := by
  rw [step_valid hv, hd]

/-- TICK, by its three tests (R180). -/
theorem tick_eq (s : State) :
    tick s =
      if s.cen then
        (if s.cnt ≥ s.perA then
          (if s.cfg.updateLatch = .cycleBoundary then { s with cnt := 0, perA := s.period, cmpA := s.compare }
          else { s with cnt := 0 })
        else { s with cnt := s.cnt + 1 })
      else s := by
  unfold tick atTop
  simp only [decide_eq_true_eq]
  split
  · split
    · cases s.cfg.updateLatch <;> rfl
    · rfl
  · rfl

/-- Settles O24: TICK on the state with the turn taken. -/
theorem tickCountsAndWraps : Obligations.TickCountsAndWraps := by
  unfold Obligations.TickCountsAndWraps
  intro s hv hd
  rw [step_of_due hv hd]
  show Host.Outcome.next (tick (takeTurn s)) = _
  rw [tick_eq]
  simp only [takeTurn_cen, takeTurn_cnt, takeTurn_perA, takeTurn_cfg, takeTurn_period, takeTurn_compare]

theorem step_extAssert {s : State} (hv : configValid s.cfg = true) (hd : dueMove s = .extAssert) :
    step s = .next { takeTurn s with stop := true } := step_of_due hv hd

theorem step_extDeassert {s : State} (hv : configValid s.cfg = true) (hd : dueMove s = .extDeassert) :
    step s = .next (if s.cfg.extDeassert then { takeTurn s with stop := false } else takeTurn s) := by
  rw [step_of_due hv hd, ← takeTurn_cfg s]
  rfl

theorem step_observe {s : State} (hv : configValid s.cfg = true) (hd : dueMove s = .observe) :
    step s = .next
      (if s.ie then { takeTurn s with obslog := s.obslog ++ [(s.period, s.compare)] } else takeTurn s) := by
  rw [step_of_due hv hd, ← takeTurn_ie s, ← takeTurn_obslog s, ← takeTurn_period s, ← takeTurn_compare s]
  rfl

/-- Settles O31: the steps of EXT and of OBS. -/
theorem extWritesStopAndObsRecordsPair : Obligations.ExtWritesStopAndObsRecordsPair :=
  fun _ hv => ⟨step_extAssert hv, step_extDeassert hv, step_observe hv⟩

/-- Settles O33: the values are those of `State.powerOn` under this hardware's parameters. -/
theorem resetValues : Obligations.ResetValues := by
  unfold Obligations.ResetValues
  simp [State.reset, State.powerOn, Config.hw]

/-- Settles O34: the host's reset of the state with the turn taken. -/
theorem hostResetRestoresResetState : Obligations.HostResetRestoresResetState := by
  unfold Obligations.HostResetRestoresResetState
  intro s hv hd
  rw [step_of_due hv hd, ← takeTurn_cfg s, ← takeTurn_mode s, ← takeTurn_prog s]
  rfl

/-! ### What a step leaves unchanged -/

/-- After a word at most the harness's index has changed. -/
theorem afterWord_hidx (t : State) : ∃ n, afterWord t = { t with hidx := n } := by
  rcases afterWord_cases t with e | e
  · exact ⟨t.hidx, e⟩
  · exact ⟨t.hidx + 1, e⟩

/-- Settles O59: commands, phases, the other agents and reset keep the parameters, the mode and the list. -/
theorem parametersModeAndListNeverChange : Obligations.ParametersModeAndListNeverChange := by
  unfold Obligations.ParametersModeAndListNeverChange
  intro s t h
  cases (step_effect h).2 with
  | controller _ _ _ _ he => simp [(phase_kept he).cfg, (phase_kept he).mode, (phase_kept he).prog]
  | harnessCommand w i u _ _ _ _ _ hx =>
    have k := exec_issuerKept hx
    obtain ⟨n, e⟩ := afterWord_hidx u
    simp [e, k.cfg, k.mode, k.prog]
  | harnessIllegal w =>
    obtain ⟨n, e⟩ := afterWord_hidx (takeFault (takeTurn s) (fault .illegalCmd w))
    simp [e]
  | extDeassert => unfold extDeassert; split <;> simp
  | observe => unfold obsRead; split <;> simp
  | controllerStopped | harnessStopped | tick | extAssert | hostReset => simp

/-- CTRL's phase, RampState and the diagnostic stream are the same in both states. -/
structure RampKept (s t : State) : Prop where
  ph    : t.ph = s.ph
  freq  : t.freq = s.freq
  duty  : t.duty = s.duty
  dir   : t.dir = s.dir
  run   : t.run = s.run
  trace : t.trace = s.trace

/-- A harness's command keeps CTRL's phase, faulting or not (R171). -/
theorem exec_ph_harness {i : Instr} {s t : State} (hm : s.mode = .harness) (h : exec i s = .next t) : t.ph = s.ph := by
  rcases exec_inversion h with ⟨_, rfl⟩ | ⟨_, hr⟩ | ⟨_, r, _, rfl⟩
  · rfl
  · exact (commandResult_ok_fault hr).2.2
  · exact takeFault_ph_harness r hm

/-- Outside reset only a phase of CTRL changes CTRL's phase, RampState and the diagnostic stream. -/
theorem step_ramp {s t : State} (h : step s = .next t) (hreset : dueMove s ≠ .hostReset) :
    RampKept s t ∨ (dueMove s = .issuer ∧ s.mode = .controller ∧ PhaseEffect (takeTurn s) t) := by
  cases (step_effect h).2 with
  | controller _ hd hm _ he => exact .inr ⟨hd, hm, he⟩
  | harnessCommand w i u _ hm _ _ _ hx =>
    have k := exec_issuerKept hx
    have hph := exec_ph_harness ((takeTurn_mode s).trans hm) hx
    obtain ⟨n, e⟩ := afterWord_hidx u
    exact .inl (by constructor <;> simp [e, hph, k.freq, k.duty, k.dir, k.run, k.trace])
  | harnessIllegal w _ _ hm =>
    have hph := takeFault_ph_harness (fault .illegalCmd w) ((takeTurn_mode s).trans hm)
    obtain ⟨n, e⟩ := afterWord_hidx (takeFault (takeTurn s) (fault .illegalCmd w))
    exact .inl (by constructor <;> simp [e, hph])
  | extDeassert => exact .inl (by unfold extDeassert; split <;> constructor <;> simp)
  | observe => exact .inl (by unfold obsRead; split <;> constructor <;> simp)
  | controllerStopped | harnessStopped | tick | extAssert => exact .inl (by constructor <;> simp)
  | hostReset hd => exact absurd hd hreset

/-- Settles O60: in harness mode CTRL takes no step. -/
theorem harnessLeavesControllerState : Obligations.HarnessLeavesControllerState := by
  unfold Obligations.HarnessLeavesControllerState
  intro s t hm h hreset
  rcases step_ramp h hreset with k | ⟨_, hc, _⟩
  · exact ⟨k.ph, k.freq, k.duty, k.dir, k.run, k.trace⟩
  · rw [hm] at hc
    cases hc

/-- Where each field of RampState is written, phase by phase (R136 to R148). -/
theorem phase_rampWriters {s t : State} (h : PhaseEffect s t) :
    (t.freq = s.freq ∨ s.ph = .boot ∨ s.ph = .decide ∨ s.ph = .ceilReset) ∧
    (t.duty = s.duty ∨ s.ph = .boot ∨ s.ph = .repairStep ∨ s.ph = .ceilReset) ∧
    (t.dir = s.dir ∨ s.ph = .boot ∨ s.ph = .ceilDir) ∧
    (t.run = s.run ∨ s.ph = .boot ∨ s.ph = .sample ∨ s.ph = .restart ∨ s.ph = .ceilStop) := by
  cases h with
  | raise p hph => simp [hph, installPeriod_eq]
  | repairStep c hph => simp [hph, installCompare_eq]
  | ceilReset u hph hu =>
    have k := command_issuerKept (command_effect hu)
    simp [hph, setBaseline, k.dir, k.run]
  | fault => simp
  | boot _ hph | halted hph | report hph | sampleStopped hph | sampleRunning hph | cooldown hph | restart hph | wait hph
  | atCeiling hph | repairCheck hph | ceilStop hph | ceilDir hph | settle hph => simp [hph]

/-- Settles O47: outside reset only CTRL writes RampState, each field in its phases. -/
theorem rampStateWriters : Obligations.RampStateWriters := by
  unfold Obligations.RampStateWriters
  intro s t h hreset
  rcases step_ramp h hreset with k | ⟨hd, hm, he⟩
  · exact ⟨fun hne => absurd k.freq hne, fun hne => absurd k.duty hne, fun hne => absurd k.dir hne,
      fun hne => absurd k.run hne⟩
  · have hw := phase_rampWriters he
    simp only [takeTurn_freq, takeTurn_duty, takeTurn_dir, takeTurn_run, takeTurn_ph] at hw
    obtain ⟨hfreq, hduty, hdir, hrun⟩ := hw
    exact ⟨fun hne => ⟨hd, hm, hfreq.resolve_left hne⟩, fun hne => ⟨hd, hm, hduty.resolve_left hne⟩,
      fun hne => ⟨hd, hm, hdir.resolve_left hne⟩, fun hne => ⟨hd, hm, hrun.resolve_left hne⟩⟩

/-! ### A fault is sticky (R171, R173) -/

/-- Settles O58: on a faulted block the issuer takes no step, and the other agents do not read `FAULT`. -/
theorem faultIsStickyUntilReset : Obligations.FaultIsStickyUntilReset := by
  unfold Obligations.FaultIsStickyUntilReset
  refine ⟨fun s t hf h hreset => ?sticky, fun s _ hv => ⟨fun hd hcen hlt => ?counts, fun hd hcen hle hl => ?wraps,
    fun hd hcen hle hl => ?wrapsImmediate, step_extAssert hv, fun hd he => ?deassert, fun hd hie => ?observe⟩⟩
  case sticky =>
    cases (step_effect h).2 with
    | controller _ _ _ h0 | harnessCommand _ _ _ _ _ h0 | harnessIllegal _ _ _ _ h0 => exact absurd h0 hf
    | extDeassert => unfold extDeassert; split <;> simp
    | observe => unfold obsRead; split <;> simp
    | controllerStopped | harnessStopped | tick | extAssert => simp
    | hostReset hd => exact absurd hd hreset
  case counts => rw [tickCountsAndWraps s hv hd, if_pos hcen, if_neg (Nat.not_le_of_lt hlt)]
  case wraps => rw [tickCountsAndWraps s hv hd, if_pos hcen, if_pos hle, if_pos hl]
  case wrapsImmediate => rw [tickCountsAndWraps s hv hd, if_pos hcen, if_pos hle, if_neg (by simp [hl])]
  case deassert => rw [step_extDeassert hv hd, if_pos he]
  case observe => rw [step_observe hv hd, if_pos hie]

end Sys2Proof.Machine
end

section
/-! PROOFS. The counter and the pins (60_exceptions.md R180 to R184, 70_reset_and_hazards.md R217, R218, 41_latches.md
R125). Below the top a tick only counts, so the k-th state of a cycle is the first with the count k. -/

namespace Sys2Proof.Machine

/-! ### A cycle, tick by tick (R181) -/

theorem tick_below_top {s : State} (hcen : s.cen = true) (hlt : s.cnt < s.perA) :
    tick s = { s with cnt := s.cnt + 1 } := by
  rw [tick_eq, if_pos hcen, if_neg (Nat.not_le_of_lt hlt)]

theorem tick_at_top_cnt {s : State} (hcen : s.cen = true) (hle : s.perA ≤ s.cnt) : (tick s).cnt = 0 := by
  rw [tick_eq, if_pos hcen, if_pos hle]
  split <;> rfl

theorem tickTimes_succ (k : Nat) (s : State) : tickTimes (k + 1) s = tick (tickTimes k s) := by
  induction k generalizing s with
  | zero => rfl
  | succ k ih => exact ih (tick s)

/-- Up to the top the k-th state of a cycle is its first with the count k. -/
theorem tickTimes_in_cycle {s : State} (hcen : s.cen = true) (hcnt : s.cnt = 0) :
    ∀ {k : Nat}, k ≤ s.perA → tickTimes k s = { s with cnt := k } := by
  intro k
  induction k with
  | zero =>
    intro _
    show s = { s with cnt := 0 }
    rw [← hcnt]
  | succ k ih =>
    intro hk
    rw [tickTimes_succ, ih (Nat.le_of_succ_le hk)]
    exact tick_below_top hcen hk

/-- Settles O26: the count in the k-th state of a cycle is k, and the tick at the top wraps. -/
theorem pwmCycleLastsPeriodPlusOneTicks : Obligations.PwmCycleLastsPeriodPlusOneTicks := by
  unfold Obligations.PwmCycleLastsPeriodPlusOneTicks
  refine fun s hcen hcnt => ⟨fun k hk => ?within, ?wraps⟩
  case within => rw [tickTimes_in_cycle hcen hcnt hk]
  case wraps =>
    rw [tickTimes_succ, tickTimes_in_cycle hcen hcnt (Nat.le_refl _)]
    exact tick_at_top_cnt (s := { s with cnt := s.perA }) hcen (Nat.le_refl _)

/-! ### How long the output is active (R182) -/

theorem length_filter_range_lt (c n : Nat) : ((List.range n).filter fun k => decide (k < c)).length = min c n := by
  induction n with
  | zero => simp
  | succ n ih =>
    rw [List.range_succ, List.filter_append, List.length_append, ih]
    by_cases h : n < c
    · simp [h]; omega
    · simp [h]; omega

/-- The output in the k-th state of a cycle is that of the count k. -/
theorem pwmOut_in_cycle {s : State} (hcen : s.cen = true) (hcnt : s.cnt = 0) {k : Nat} (hk : k ≤ s.perA) :
    pwmOut (tickTimes k s) = activeEdge s.cfg.compareEdge k s.cmpA := by
  rw [tickTimes_in_cycle hcen hcnt hk]
  simp [pwmOut, hcen]

/-- Settles O27: the active counts of a cycle are those below `CMP_A`, or up to it, and there are `PER_A + 1`. -/
theorem pwmActiveTicksPerCycle : Obligations.PwmActiveTicksPerCycle := by
  unfold Obligations.PwmActiveTicksPerCycle
  refine ⟨fun s hcen hcnt => ?active, fun s hcen => by simp [pwmOut, hcen]⟩
  case active =>
    have hfilter : ((List.range (s.perA + 1)).filter fun k => pwmOut (tickTimes k s)) =
        (List.range (s.perA + 1)).filter fun k => activeEdge s.cfg.compareEdge k s.cmpA :=
      List.filter_congr fun k hk => pwmOut_in_cycle hcen hcnt (Nat.le_of_lt_succ (List.mem_range.mp hk))
    rw [hfilter]
    cases s.cfg.compareEdge with
    | lt => exact length_filter_range_lt _ _
    | le =>
      simp only [activeEdge, ← Nat.lt_succ_iff]
      exact length_filter_range_lt _ _

/-! ### Commands and a running cycle (R217, R218), and the pins of the latches (R125) -/

/-- Under `CYCLE_BOUNDARY` a command leaves a running counter and its active copies. -/
theorem command_leaves_cycle {s t : State} (hl : s.cfg.updateLatch = .cycleBoundary) (hcen : s.cen = true)
    (h : CommandEffect s t) : t.cen = true ∧ t.cnt = s.cnt ∧ t.perA = s.perA ∧ t.cmpA = s.cmpA := by
  cases h with
  | initStopped p c h0 => simp [hcen] at h0
  | initRunning | setf | setd => simp [hcen, activeAfter_cycleBoundary hl]
  | _ => simp [hcen]

/-- Settles O28: the pin depends on the counter, `CMP_A` and the parameters, which a command then leaves. -/
theorem commandsLeaveRunningCycle : Obligations.CommandsLeaveRunningCycle := by
  unfold Obligations.CommandsLeaveRunningCycle
  intro i s t hl hcen h
  have hcycle : t.cen = true ∧ t.cnt = s.cnt ∧ t.perA = s.perA ∧ t.cmpA = s.cmpA := by
    rcases exec_inversion h with ⟨_, rfl⟩ | ⟨_, hr⟩ | ⟨_, r, _, rfl⟩
    · exact ⟨hcen, rfl, rfl, rfl⟩
    · exact command_leaves_cycle hl hcen (command_effect hr)
    · simp [hcen]
  obtain ⟨hcen', hcnt, hperA, hcmpA⟩ := hcycle
  exact ⟨hcen', hcnt, hperA, hcmpA, by simp [pwmOut, hcen, hcen', hcnt, hcmpA, (exec_issuerKept h).cfg]⟩

/-- Settles O30: each pin is its latch at its level. -/
theorem latchPins : Obligations.LatchPins := by
  unfold Obligations.LatchPins
  refine fun s => ⟨rfl, ?dir⟩
  case dir =>
    unfold dirOut
    cases s.dirl <;> rfl

end Sys2Proof.Machine
end

section
/-! PROOFS. The phases of the Ramp Controller (45_ramp_controller.md R135 to R150): each clause is the phase's own
equation on the state with the turn taken. -/

namespace Sys2Proof.Machine

theorem ctrlTurn_fault {s : State} (h : CtrlTurn s) : (takeTurn s).fault = 0 :=
  (takeTurn_fault s).trans h.2.2.2

/-! ### The branches of P_DECIDE and P_REPAIR_STEP (R142, R144) -/

theorem phaseDecide_atCeiling {s : State} (h : s.cfg.fCeil ≤ s.freq) : phaseDecide s = .next (s.goto .ceilStop) := by
  simp [phaseDecide, belowCeiling, h]

theorem phaseDecide_freqOverflow {s : State} (hlt : s.freq < s.cfg.fCeil)
    (ho : 2 ^ s.cfg.freqWidth ≤ s.freq + s.cfg.fStep) :
    phaseDecide s = .next (takeFault s (fault .freqOverflow (zextReg s.freq))) := by
  simp [phaseDecide, belowCeiling, hlt, ho]

/-- Below the ceiling, where the sum fits, P_DECIDE is its SETF and the new frequency (R142). -/
theorem phaseDecide_setf {s : State} (hlt : s.freq < s.cfg.fCeil)
    (hfit : s.freq + s.cfg.fStep < 2 ^ s.cfg.freqWidth) :
    phaseDecide s =
      issue s (.setf (BitVec.ofNat 16 (s.freq + s.cfg.fStep))) s fun t =>
        .next ((t.setFreq (s.freq + s.cfg.fStep)).goto .repairCheck) := by
  simp [phaseDecide, belowCeiling, hlt, hfit]

theorem phaseRepairStep_underflow {s : State} (hlt : s.duty < s.cfg.dStep) :
    phaseRepairStep s = .next (takeFault s (fault .dutyUnderflow (zextReg s.duty))) :=
  if_pos hlt

/-- Where the duty can be lowered, P_REPAIR_STEP is its SETD and the new duty (R144). -/
theorem phaseRepairStep_setd {s : State} (hle : s.cfg.dStep ≤ s.duty) :
    phaseRepairStep s =
      issue s (.setd (BitVec.ofNat 8 (s.duty - s.cfg.dStep))) s fun t =>
        .next ((t.setDuty (s.duty - s.cfg.dStep)).goto .repairCheck) :=
  if_neg (Nat.not_lt_of_le hle)

/-! ### CTRL's step in each phase, as a record -/

section
variable {s : State} (hf : s.fault = 0)
include hf

theorem ctrlStep_sample (hph : s.ph = .sample) :
    ctrlStep s = .next
      (if s.stop then { s with resp := 1, run := .stopped, trace := s.trace ++ [.stStopped], ph := .cooldown }
      else { s with resp := 0, run := .running, trace := s.trace ++ [.stRotating], ph := .wait }) := by
  rw [ctrlStep_phase hf, hph]
  show phaseSample s = _
  rw [phaseSample_eq hf]
  simp only [State.goto, State.emit, State.setRun, State.respond]

theorem ctrlStep_sample_stopped (hph : s.ph = .sample) (hs : s.stop = true) :
    ctrlStep s = .next { s with resp := 1, run := .stopped, trace := s.trace ++ [.stStopped], ph := .cooldown } := by
  rw [ctrlStep_sample hf hph, if_pos hs]

theorem ctrlStep_restart (hph : s.ph = .restart) :
    ctrlStep s = .next { s with stop := false, run := .running, trace := s.trace ++ [.stStarted], ph := .wait } := by
  rw [ctrlStep_phase hf, hph]
  exact phaseRestart_eq hf

theorem ctrlStep_cooldown (hph : s.ph = .cooldown) :
    ctrlStep s = .next { s with trace := s.trace ++ [.wait .cooldown], ph := .restart } := by
  rw [ctrlStep_phase hf, hph]
  rfl

theorem ctrlStep_wait (hph : s.ph = .wait) :
    ctrlStep s = .next { s with trace := s.trace ++ [.wait .interval], ph := .decide } := by
  rw [ctrlStep_phase hf, hph]
  rfl

theorem ctrlStep_settle (hph : s.ph = .settle) :
    ctrlStep s = .next { s with trace := s.trace ++ [.wait .settle], ph := .report } := by
  rw [ctrlStep_phase hf, hph]
  rfl

theorem ctrlStep_ceilStop (hph : s.ph = .ceilStop) :
    ctrlStep s = .next
      { s with stop := !s.stop, run := if s.stop then .running else .stopped, trace := s.trace ++ [.revStopped],
               ph := .ceilReset } := by
  rw [ctrlStep_phase hf, hph]
  exact phaseCeilStop_eq hf

theorem ctrlStep_ceilDir (hph : s.ph = .ceilDir) :
    ctrlStep s = .next
      { s with dirl := !s.dirl, dir := flipDirection s.dir, trace := s.trace ++ [.revDir (flipDirection s.dir)],
               ph := .settle } := by
  rw [ctrlStep_phase hf, hph]
  exact phaseCeilDir_eq hf

theorem ctrlStep_repairCheck (hv : configValid s.cfg = true) (hw : WidthInv s) (hph : s.ph = .repairCheck) :
    ctrlStep s = .next
      { s with resp := BitVec.ofNat 32 s.period, ph := if s.compare > s.period then .repairStep else .report } := by
  rw [ctrlStep_phase hf, hph]
  have h := phaseRepairCheck_eq hf
  rw [compareExceeds_registers hv hw] at h
  simp only [decide_eq_true_eq] at h
  exact h

theorem ctrlStep_atCeiling (hph : s.ph = .decide) (h : s.cfg.fCeil ≤ s.freq) :
    ctrlStep s = .next { s with ph := .ceilStop } := by
  rw [ctrlStep_phase hf, hph]
  exact phaseDecide_atCeiling h

theorem ctrlStep_freqOverflow (hm : s.mode = .controller) (hph : s.ph = .decide) (hlt : s.freq < s.cfg.fCeil)
    (ho : 2 ^ s.cfg.freqWidth ≤ s.freq + s.cfg.fStep) :
    ctrlStep s = .next { s with fault := 6, finfo := BitVec.ofNat 32 s.freq, ph := .halted } := by
  rw [ctrlStep_phase hf, hph]
  exact (phaseDecide_freqOverflow hlt ho).trans (congrArg _ (takeFault_controller _ hf hm))

theorem ctrlStep_raise {p : Nat} (hph : s.ph = .decide) (hlt : s.freq < s.cfg.fCeil)
    (hfit : s.freq + s.cfg.fStep < 2 ^ s.cfg.freqWidth)
    (hp : periodOf s.cfg (BitVec.ofNat 16 (s.freq + s.cfg.fStep)) = .ok p) :
    ctrlStep s = .next
      { s with period := p, perA := activeAfter s.cfg p s.perA, cmpA := activeAfter s.cfg s.compare s.cmpA,
               freq := s.freq + s.cfg.fStep, ph := .repairCheck } := by
  have hstep := (phaseDecide_setf hlt hfit).trans (issue_ok hf (commandResult_setf_ok hp))
  rw [installPeriod_eq] at hstep
  rw [ctrlStep_phase hf, hph]
  exact hstep

theorem ctrlStep_raise_fault {r : Raise} (hm : s.mode = .controller) (hph : s.ph = .decide) (hlt : s.freq < s.cfg.fCeil)
    (hfit : s.freq + s.cfg.fStep < 2 ^ s.cfg.freqWidth)
    (hr : periodOf s.cfg (BitVec.ofNat 16 (s.freq + s.cfg.fStep)) = .error r) :
    ctrlStep s = .next { s with fault := r.code, finfo := r.info, ph := .halted } := by
  have hstep := (phaseDecide_setf hlt hfit).trans (issue_error hf (commandResult_setf_error hr))
  rw [takeFault_controller r hf hm] at hstep
  rw [ctrlStep_phase hf, hph]
  exact hstep

theorem ctrlStep_dutyUnderflow (hm : s.mode = .controller) (hph : s.ph = .repairStep) (hlt : s.duty < s.cfg.dStep) :
    ctrlStep s = .next { s with fault := 7, finfo := BitVec.ofNat 32 s.duty, ph := .halted } := by
  rw [ctrlStep_phase hf, hph]
  exact (phaseRepairStep_underflow hlt).trans (congrArg _ (takeFault_controller _ hf hm))

theorem ctrlStep_repair {c : Nat} (hph : s.ph = .repairStep) (hle : s.cfg.dStep ≤ s.duty)
    (hc : compareOf s.cfg s.period (BitVec.ofNat 8 (s.duty - s.cfg.dStep)) = .ok c) :
    ctrlStep s = .next
      { s with compare := c, perA := activeAfter s.cfg s.period s.perA, cmpA := activeAfter s.cfg c s.cmpA,
               duty := s.duty - s.cfg.dStep, ph := .repairCheck } := by
  have hstep := (phaseRepairStep_setd hle).trans (issue_ok hf (commandResult_setd_ok hc))
  rw [installCompare_eq] at hstep
  rw [ctrlStep_phase hf, hph]
  exact hstep

theorem ctrlStep_repair_fault {r : Raise} (hm : s.mode = .controller) (hph : s.ph = .repairStep)
    (hle : s.cfg.dStep ≤ s.duty)
    (hr : compareOf s.cfg s.period (BitVec.ofNat 8 (s.duty - s.cfg.dStep)) = .error r) :
    ctrlStep s = .next { s with fault := r.code, finfo := r.info, ph := .halted } := by
  have hstep := (phaseRepairStep_setd hle).trans (issue_error hf (commandResult_setd_error hr))
  rw [takeFault_controller r hf hm] at hstep
  rw [ctrlStep_phase hf, hph]
  exact hstep

theorem ctrlStep_boot {p c : Nat} (hph : s.ph = .boot) (hp : periodOf s.cfg (BitVec.ofNat 16 s.cfg.fBase) = .ok p)
    (hc : compareOf s.cfg p (BitVec.ofNat 8 s.cfg.dBase) = .ok c) :
    ctrlStep s = .next
      { installPair p c s with
        freq := s.cfg.fBase, duty := s.cfg.dBase, dir := .forward, run := .running, ph := .report } := by
  have hstep : phaseBoot s =
      .next ((installPair p c (((setBaseline s).setDir .forward).setRun .running)).goto .report) :=
    issue_ok (s := s) hf (commandResult_init_ok hp hc)
  rw [ctrlStep_phase hf, hph]
  refine hstep.trans (congrArg _ ?_)
  rw [installPair_eq, installPair_eq]
  show State.goto (if s.cen then _ else _) .report = _
  split <;> rfl

theorem ctrlStep_ceilReset {p c : Nat} (hph : s.ph = .ceilReset)
    (hp : periodOf s.cfg (BitVec.ofNat 16 s.cfg.fBase) = .ok p)
    (hc : compareOf s.cfg p (BitVec.ofNat 8 s.cfg.dBase) = .ok c) :
    ctrlStep s = .next { installPair p c s with freq := s.cfg.fBase, duty := s.cfg.dBase, ph := .ceilDir } := by
  have hstep : phaseCeilReset s = .next ((setBaseline (installPair p c s)).goto .ceilDir) :=
    issue_ok (s := s) hf (commandResult_init_ok hp hc)
  have hcfg : (installPair p c s).cfg = s.cfg := by rw [installPair_eq]; split <;> rfl
  rw [ctrlStep_phase hf, hph, ← hcfg]
  exact hstep

theorem ctrlStep_ceilReset_running {p c : Nat} (hph : s.ph = .ceilReset) (hcen : s.cen = true)
    (hp : periodOf s.cfg (BitVec.ofNat 16 s.cfg.fBase) = .ok p)
    (hc : compareOf s.cfg p (BitVec.ofNat 8 s.cfg.dBase) = .ok c) :
    ctrlStep s = .next
      { s with period := p, compare := c, ie := true, perA := activeAfter s.cfg p s.perA,
               cmpA := activeAfter s.cfg c s.cmpA, freq := s.cfg.fBase, duty := s.cfg.dBase, ph := .ceilDir } := by
  rw [ctrlStep_ceilReset hf hph hp hc, installPair_running p c hcen]

end

/-! ### The same steps on CTRL's turn -/

theorem flipDirection_eq (d : Direction) : flipDirection d = if d = .forward then .reverse else .forward := by
  cases d <;> rfl

/-- Settles O38: P_SAMPLE and P_RESTART on CTRL's turn. -/
theorem sampleAndRestartSteps : Obligations.SampleAndRestartSteps := by
  unfold Obligations.SampleAndRestartSteps
  refine fun s h => ⟨fun hph => ?sample, fun hph => ?restart⟩
  case sample =>
    rw [step_of_ctrlTurn h, ctrlStep_sample (ctrlTurn_fault h) ((takeTurn_ph s).trans hph)]
    simp only [takeTurn_stop, takeTurn_trace]
  case restart =>
    rw [step_of_ctrlTurn h, ctrlStep_restart (ctrlTurn_fault h) ((takeTurn_ph s).trans hph), takeTurn_trace]

/-- Settles O39: the three waits on CTRL's turn. -/
theorem waitSteps : Obligations.WaitSteps := by
  unfold Obligations.WaitSteps
  refine fun s h => ⟨fun hph => ?cooldown, fun hph => ?interval, fun hph => ?settle⟩
  case cooldown =>
    rw [step_of_ctrlTurn h, ctrlStep_cooldown (ctrlTurn_fault h) ((takeTurn_ph s).trans hph), takeTurn_trace]
  case interval =>
    rw [step_of_ctrlTurn h, ctrlStep_wait (ctrlTurn_fault h) ((takeTurn_ph s).trans hph), takeTurn_trace]
  case settle =>
    rw [step_of_ctrlTurn h, ctrlStep_settle (ctrlTurn_fault h) ((takeTurn_ph s).trans hph), takeTurn_trace]

/-- Settles O44: P_CEIL_STOP and P_CEIL_DIR on CTRL's turn. -/
theorem ceilingLatchSteps : Obligations.CeilingLatchSteps := by
  unfold Obligations.CeilingLatchSteps
  refine fun s h => ⟨fun hph => ?stop, fun hph => ?direction⟩
  case stop =>
    rw [step_of_ctrlTurn h, ctrlStep_ceilStop (ctrlTurn_fault h) ((takeTurn_ph s).trans hph), takeTurn_trace,
      takeTurn_stop]
  case direction =>
    rw [step_of_ctrlTurn h, ctrlStep_ceilDir (ctrlTurn_fault h) ((takeTurn_ph s).trans hph), takeTurn_trace,
      takeTurn_dir, takeTurn_dirl, flipDirection_eq]

/-- Settles O41: within the widths the test compares the registers. -/
theorem repairCheckStep : Obligations.RepairCheckStep := by
  unfold Obligations.RepairCheckStep
  intro s h hw hph
  rw [step_of_ctrlTurn h, ctrlStep_repairCheck (ctrlTurn_fault h) (by simpa using h.1) (by simpa using hw)
    ((takeTurn_ph s).trans hph)]
  simp only [takeTurn_compare, takeTurn_period]

/-- Settles O36: P_BOOT and P_CEIL_RESET, whose INIT succeeds where both functions do. -/
theorem bootAndCeilResetSteps : Obligations.BootAndCeilResetSteps := by
  unfold Obligations.BootAndCeilResetSteps
  refine ⟨fun s p c h hph hp hc => ?boot, fun s p c h hph hcen hp hc => ?ceilReset⟩
  all_goals
    have hf := ctrlTurn_fault h
    have hph' := (takeTurn_ph s).trans hph
    rw [← takeTurn_cfg s] at hp hc ⊢
  case boot =>
    refine ⟨_, exec_of_commandResult_ok hf (commandResult_init_ok hp hc), ?_⟩
    rw [step_of_ctrlTurn h, ctrlStep_boot hf hph' hp hc]
  case ceilReset =>
    rw [step_of_ctrlTurn h, ctrlStep_ceilReset_running hf hph' ((takeTurn_cen s).trans hcen) hp hc]
    simp only [takeTurn_perA, takeTurn_cmpA]

/-- A frequency that fits its register fits the operand of SETF (log 2). -/
theorem freq_operand_toNat {c : Config} (hv : configValid c = true) {f : Nat} (hf : f < 2 ^ c.freqWidth) :
    (BitVec.ofNat 16 f).toNat = f := by
  have hbound := (configValid_bounds hv).2.1
  rw [BitVec.toNat_ofNat, Nat.mod_eq_of_lt (by omega)]

/-- Settles O40: P_DECIDE at the ceiling, with an overflow of the sum, and with PeriodOf's two answers. -/
theorem decideStep : Obligations.DecideStep := by
  unfold Obligations.DecideStep
  intro s h hph
  have hf := ctrlTurn_fault h
  have hm := (takeTurn_mode s).trans h.2.2.1
  have hph' := (takeTurn_ph s).trans hph
  rw [step_of_ctrlTurn h]
  refine ⟨fun hc => ?ceiling, fun hlt ho => ?overflow, fun hlt hfit =>
    ⟨BitVec.ofNat 16 (s.freq + s.cfg.fStep), freq_operand_toNat h.1 hfit, fun p hp => ?raise, fun r hr => ?fault⟩⟩
  case ceiling => exact ctrlStep_atCeiling hf hph' (by simpa using hc)
  case overflow =>
    rw [ctrlStep_freqOverflow hf hm hph' (by simpa using hlt) (by simpa using ho)]
    simp only [takeTurn_freq]
  case raise =>
    rw [ctrlStep_raise hf hph' (by simpa using hlt) (by simpa using hfit) (by simpa using hp)]
    simp only [takeTurn_cfg, takeTurn_perA, takeTurn_cmpA, takeTurn_compare, takeTurn_freq]
  case fault =>
    exact ctrlStep_raise_fault hf hm hph' (by simpa using hlt) (by simpa using hfit) (by simpa using hr)

/-- A duty that fits its register fits the operand of SETD (log 2). -/
theorem duty_operand_toNat {d : Nat} (hd : d < 256) : (BitVec.ofNat 8 d).toNat = d := by
  rw [BitVec.toNat_ofNat, Nat.mod_eq_of_lt (by omega)]

theorem zextDuty_ofNat {d : Nat} (hd : d < 256) : zextDuty (BitVec.ofNat 8 d) = BitVec.ofNat 32 d := by
  apply BitVec.eq_of_toNat_eq
  simp only [zextDuty, BitVec.toNat_setWidth, BitVec.toNat_ofNat]
  omega

/-- Settles O42: P_REPAIR_STEP with a duty too small, with one still above 100, and with one CompareOf accepts. -/
theorem repairStepLowersDuty : Obligations.RepairStepLowersDuty := by
  unfold Obligations.RepairStepLowersDuty
  intro s h hw hph hfit
  have hf := ctrlTurn_fault h
  have hm := (takeTurn_mode s).trans h.2.2.1
  have hph' := (takeTurn_ph s).trans hph
  have hd : s.duty - s.cfg.dStep < 256 := Nat.lt_of_le_of_lt (Nat.sub_le _ _) (widthInv_bounds h.1 hw).2.2.2
  have hnat := duty_operand_toNat hd
  rw [step_of_ctrlTurn h]
  refine ⟨fun hlt => ?underflow, fun hle hgt => ?range, fun hle hle100 => ⟨_, rfl, ?lowered⟩⟩
  case underflow =>
    rw [ctrlStep_dutyUnderflow hf hm hph' (by simpa using hlt)]
    simp only [takeTurn_duty]
  case range =>
    have hr := compareOf_duty_range s.cfg s.period (d := BitVec.ofNat 8 (s.duty - s.cfg.dStep)) (by rwa [hnat])
    rw [zextDuty_ofNat hd] at hr
    exact ctrlStep_repair_fault hf hm hph' (by simpa using hle) (by simpa using hr)
  case lowered =>
    have hc := compareOf_of_period_fits (d := BitVec.ofNat 8 (s.duty - s.cfg.dStep)) hfit (by rwa [hnat])
    rw [hnat] at hc
    rw [ctrlStep_repair hf hph' (by simpa using hle) (by simpa using hc)]
    simp only [takeTurn_cfg, takeTurn_perA, takeTurn_cmpA, takeTurn_period, takeTurn_duty]

/-- Settles O45: in P_HALTED the phase does nothing, and a faulted block stops CTRL before its phase. -/
theorem haltedControllerTakesNoStep : Obligations.HaltedControllerTakesNoStep := by
  unfold Obligations.HaltedControllerTakesNoStep
  intro s hv hd hm hstop
  have hstep : ctrlStep (takeTurn s) = .next (takeTurn s) := by
    by_cases hf : (takeTurn s).fault = 0
    · have hph : (takeTurn s).ph = .halted := by
        rcases hstop with hph | hne
        · rwa [takeTurn_ph]
        · exact absurd ((takeTurn_fault s).symm.trans hf) hne
      rw [ctrlStep_phase hf, hph]
    · exact ctrlStep_faulted hf
  rw [step_of_due hv hd]
  exact (issuerStep_controller ((takeTurn_mode s).trans hm)).trans hstep

/-! ### The transitions (R150) -/

/-- Settles O46: each effect of a phase names the next phase, and a fault halts. -/
theorem phaseTransitions : Obligations.PhaseTransitions := by
  unfold Obligations.PhaseTransitions
  intro s t h hw hhalt hstep
  have hf := ctrlTurn_fault h
  have hv : configValid (takeTurn s).cfg = true := by simpa using h.1
  have hm := (takeTurn_mode s).trans h.2.2.1
  have hw := (widthInv_takeTurn s).mpr hw
  have he := phase_effect hf ((step_of_ctrlTurn h).symm.trans hstep)
  rw [← takeTurn_ph s] at hhalt
  rw [← takeTurn_ph s, ← takeTurn_stop s, ← takeTurn_freq s, ← takeTurn_cfg s, ← takeTurn_compare s,
    ← takeTurn_period s]
  generalize takeTurn s = v at *
  have ofCommand {i : Instr} {w u : State} (hu : commandResult i w = .ok u) (hwf : w.fault = v.fault) :
      u.fault = 0 := (commandResult_ok_fault hu).1.trans (hwf.trans hf)
  cases he with
  | halted hph => exact absurd hph hhalt
  | fault r hne => exact .inl ⟨by rwa [(takeFault_records r hf).1], takeFault_ph_controller r hm⟩
  | boot u hph hu =>
    have hu := ofCommand hu (by simp [setBaseline])
    exact .inr (by simp [hph, hu])
  | raise p hph hlt _ _ hu => exact .inr (by simp [hph, hlt, ofCommand hu rfl])
  | atCeiling hph hle => exact .inr (by simp [hph, hf, Nat.not_lt_of_le hle])
  | repairCheck hph =>
    rw [compareExceeds_registers hv hw]
    exact .inr (by simp [hph, hf])
  | repairStep c hph _ _ hu => exact .inr (by simp [hph, ofCommand hu rfl])
  | ceilReset u hph hu => exact .inr (by simp [hph, setBaseline, ofCommand hu rfl])
  | sampleStopped hph hs => exact .inr (by simp [hph, hf, hs])
  | sampleRunning hph hs => exact .inr (by simp [hph, hf, hs])
  | report hph | cooldown hph | restart hph | wait hph | ceilStop hph | ceilDir hph | settle hph =>
    exact .inr (by simp [hph, hf])

end Sys2Proof.Machine
end

section
/-! PROOFS. The diagnostic stream is never read (45_ramp_controller.md R154). Every function of the model commutes with
writing `TRACE`, up to the events it appends; the statement is this for the step. -/

namespace Sys2Proof.Machine

/-- `TRACE <- l`: the state with another diagnostic stream. -/
def State.setTrace (s : State) (l : List Event) : State := { s with trace := l }

section
variable (s : State) (l : List Event)

@[simp] theorem setTrace_period : (s.setTrace l).period = s.period := rfl
@[simp] theorem setTrace_cfg : (s.setTrace l).cfg = s.cfg := rfl
@[simp] theorem setTrace_stop : (s.setTrace l).stop = s.stop := rfl
@[simp] theorem setTrace_ph : (s.setTrace l).ph = s.ph := rfl
@[simp] theorem setTrace_sched : (s.setTrace l).sched = s.sched := rfl

end

/-- From `s`, `f` answers `t` and appends events to `TRACE` that do not depend on what `TRACE` holds; nor does anything
else that it does. -/
def AppendsBlindly (f : State → StepOutcome) (s t : State) : Prop :=
  ∃ es, t.trace = s.trace ++ es ∧ ∀ l, f (s.setTrace l) = .next (t.setTrace (l ++ es))

theorem appendsBlindly_nothing {f : State → StepOutcome} {s t : State} (ht : t.trace = s.trace)
    (h : ∀ l, f (s.setTrace l) = .next (t.setTrace l)) : AppendsBlindly f s t :=
  ⟨[], by rw [ht, List.append_nil], fun l => by rw [List.append_nil]; exact h l⟩

/-! ### Commands neither read nor write `TRACE` -/

theorem installPair_setTrace (p c : Nat) (s : State) (l : List Event) :
    installPair p c (s.setTrace l) = (installPair p c s).setTrace l := by
  cases h : s.cen
  · rw [installPair_stopped p c h, installPair_stopped p c (s := s.setTrace l) h]
    rfl
  · rw [installPair_running p c h, installPair_running p c (s := s.setTrace l) h]
    rfl

theorem installPeriod_setTrace (p : Nat) (s : State) (l : List Event) :
    installPeriod p (s.setTrace l) = (installPeriod p s).setTrace l := by
  rw [installPeriod_eq, installPeriod_eq]
  rfl

theorem installCompare_setTrace (c : Nat) (s : State) (l : List Event) :
    installCompare c (s.setTrace l) = (installCompare c s).setTrace l := by
  rw [installCompare_eq, installCompare_eq]
  rfl

theorem takeFault_setTrace {s : State} (hf : s.fault = 0) (r : Raise) (l : List Event) :
    takeFault (s.setTrace l) r = (takeFault s r).setTrace l := by
  rw [takeFault_eq r hf, takeFault_eq (s := s.setTrace l) r hf]
  rfl

/-- The rule of a command answers or faults alike whatever `TRACE` holds, and leaves it. -/
theorem commandResult_setTrace (i : Instr) (s : State) (l : List Event) :
    commandResult i (s.setTrace l) = (commandResult i s).map (·.setTrace l) := by
  cases i with
  | init f d =>
    simp only [commandResult, initResult, setTrace_cfg, installPair_setTrace]
    cases periodOf s.cfg f with
    | error r => rfl
    | ok p => dsimp only; cases compareOf s.cfg p d <;> rfl
  | setf f =>
    simp only [commandResult, setfResult, setTrace_cfg, installPeriod_setTrace]
    cases periodOf s.cfg f <;> rfl
  | setd d =>
    simp only [commandResult, setdResult, setTrace_cfg, setTrace_period, installCompare_setTrace]
    cases compareOf s.cfg s.period d <;> rfl
  | _ => rfl

theorem exec_appendsBlindly {i : Instr} {s t : State} (h : exec i s = .next t) : AppendsBlindly (exec i) s t := by
  refine appendsBlindly_nothing (exec_issuerKept h).trace fun l => ?_
  rw [exec_eq_perform, commandResult_setTrace]
  rcases exec_inversion h with ⟨hf, rfl⟩ | ⟨hf, hr⟩ | ⟨hf, r, hr, rfl⟩
  · exact perform_faulted hf
  · rw [hr]
    exact perform_ok hf
  · rw [hr, ← takeFault_setTrace hf]
    exact perform_error hf

/-! ### A phase appends its own events -/

/-- A phase that issues one command and then neither reads nor writes `TRACE`. -/
theorem issue_setTrace {s v t : State} {i : Instr} {g : State → State} (hs : s.fault = 0) (hv : v.fault = 0)
    (hvt : v.trace = s.trace) (hg : ∀ u l, g (u.setTrace l) = (g u).setTrace l) (hgt : ∀ u, (g u).trace = u.trace)
    (h : issue s i v (fun u => .next (g u)) = .next t) :
    t.trace = s.trace ∧ ∀ l, issue (s.setTrace l) i (v.setTrace l) (fun u => .next (g u)) = .next (t.setTrace l) := by
  have hcomm := commandResult_setTrace i v
  rcases issue_cases (s := s) (next := fun u => .next (g u)) hv with ⟨u, hu, e⟩ | ⟨r, hr, e⟩ <;> rw [e] at h <;> cases h
  · refine ⟨(hgt u).trans ((command_issuerKept (command_effect hu)).trace.trans hvt), fun l => ?_⟩
    rw [issue_ok (t := v.setTrace l) hv ((hcomm l).trans (by rw [hu]; rfl)), hg]
  · refine ⟨takeFault_trace s r, fun l => ?_⟩
    rw [issue_error (t := v.setTrace l) hv ((hcomm l).trans (by rw [hr]; rfl)), takeFault_setTrace hs]

section
variable {s t : State} (hf : s.fault = 0)
include hf

theorem phaseBoot_appendsBlindly (h : phaseBoot s = .next t) : AppendsBlindly phaseBoot s t := by
  obtain ⟨ht, hl⟩ := issue_setTrace (v := ((setBaseline s).setDir .forward).setRun .running)
    (g := fun u => u.goto .report) hf hf rfl (fun _ _ => rfl) (fun _ => rfl) h
  exact appendsBlindly_nothing ht hl

theorem phaseReport_appendsBlindly (h : phaseReport s = .next t) : AppendsBlindly phaseReport s t := by
  rw [phaseReport_eq hf] at h
  cases h
  exact ⟨_, rfl, fun l => phaseReport_eq (s := s.setTrace l) hf⟩

theorem phaseSample_appendsBlindly (h : phaseSample s = .next t) : AppendsBlindly phaseSample s t := by
  rw [phaseSample_eq hf] at h
  cases h
  have hsample (l : List Event) := phaseSample_eq (s := s.setTrace l) hf
  simp only [setTrace_stop] at hsample
  cases hs : s.stop <;> simp only [hs] at hsample
  · exact ⟨_, rfl, hsample⟩
  · exact ⟨_, rfl, hsample⟩

theorem phaseRestart_appendsBlindly (h : phaseRestart s = .next t) : AppendsBlindly phaseRestart s t := by
  rw [phaseRestart_eq hf] at h
  cases h
  exact ⟨_, rfl, fun l => phaseRestart_eq (s := s.setTrace l) hf⟩

theorem phaseDecide_appendsBlindly (h : phaseDecide s = .next t) : AppendsBlindly phaseDecide s t := by
  by_cases hlt : s.freq < s.cfg.fCeil
  · by_cases hfit : s.freq + s.cfg.fStep < 2 ^ s.cfg.freqWidth
    · rw [phaseDecide_setf hlt hfit] at h
      obtain ⟨ht, hl⟩ := issue_setTrace (g := fun u => (u.setFreq (s.freq + s.cfg.fStep)).goto .repairCheck) hf hf rfl
        (fun _ _ => rfl) (fun _ => rfl) h
      exact appendsBlindly_nothing ht fun l => (phaseDecide_setf (s := s.setTrace l) hlt hfit).trans (hl l)
    · have ho := Nat.le_of_not_lt hfit
      rw [phaseDecide_freqOverflow hlt ho] at h
      cases h
      refine appendsBlindly_nothing (takeFault_trace _ _) fun l => ?_
      rw [phaseDecide_freqOverflow (s := s.setTrace l) hlt ho, takeFault_setTrace hf]
      rfl
  · have hle := Nat.le_of_not_lt hlt
    rw [phaseDecide_atCeiling hle] at h
    cases h
    exact appendsBlindly_nothing rfl fun l => phaseDecide_atCeiling (s := s.setTrace l) hle

theorem phaseRepairCheck_appendsBlindly (h : phaseRepairCheck s = .next t) : AppendsBlindly phaseRepairCheck s t := by
  rw [phaseRepairCheck_eq hf] at h
  cases h
  exact appendsBlindly_nothing rfl fun l => phaseRepairCheck_eq (s := s.setTrace l) hf

theorem phaseRepairStep_appendsBlindly (h : phaseRepairStep s = .next t) : AppendsBlindly phaseRepairStep s t := by
  by_cases hlt : s.duty < s.cfg.dStep
  · rw [phaseRepairStep_underflow hlt] at h
    cases h
    refine appendsBlindly_nothing (takeFault_trace _ _) fun l => ?_
    rw [phaseRepairStep_underflow (s := s.setTrace l) hlt, takeFault_setTrace hf]
    rfl
  · have hle := Nat.le_of_not_lt hlt
    rw [phaseRepairStep_setd hle] at h
    obtain ⟨ht, hl⟩ := issue_setTrace (g := fun u => (u.setDuty (s.duty - s.cfg.dStep)).goto .repairCheck) hf hf rfl
      (fun _ _ => rfl) (fun _ => rfl) h
    exact appendsBlindly_nothing ht fun l => (phaseRepairStep_setd (s := s.setTrace l) hle).trans (hl l)

theorem phaseCeilStop_appendsBlindly (h : phaseCeilStop s = .next t) : AppendsBlindly phaseCeilStop s t := by
  rw [phaseCeilStop_eq hf] at h
  cases h
  exact ⟨_, rfl, fun l => phaseCeilStop_eq (s := s.setTrace l) hf⟩

theorem phaseCeilReset_appendsBlindly (h : phaseCeilReset s = .next t) : AppendsBlindly phaseCeilReset s t := by
  obtain ⟨ht, hl⟩ := issue_setTrace (g := fun u => (setBaseline u).goto .ceilDir) hf hf rfl (fun _ _ => rfl)
    (fun _ => rfl) h
  exact appendsBlindly_nothing ht hl

theorem phaseCeilDir_appendsBlindly (h : phaseCeilDir s = .next t) : AppendsBlindly phaseCeilDir s t := by
  rw [phaseCeilDir_eq hf] at h
  cases h
  exact ⟨_, rfl, fun l => phaseCeilDir_eq (s := s.setTrace l) hf⟩

end

/-- What a function does whatever `TRACE` holds, another does that agrees with it on those states. -/
theorem AppendsBlindly.of_eq {f g : State → StepOutcome} {s t : State} (h : AppendsBlindly f s t)
    (hgf : ∀ l, g (s.setTrace l) = f (s.setTrace l)) : AppendsBlindly g s t := by
  obtain ⟨es, ht, hl⟩ := h
  exact ⟨es, ht, fun l => (hgf l).trans (hl l)⟩

theorem ctrlStep_appendsBlindly {s t : State} (h : ctrlStep s = .next t) : AppendsBlindly ctrlStep s t := by
  by_cases hf : s.fault = 0
  · have hphase (l : List Event) := ctrlStep_phase (s := s.setTrace l) hf
    rw [ctrlStep_phase hf] at h
    simp only [setTrace_ph] at hphase
    cases hp : s.ph <;> simp only [hp] at h hphase
    case boot => exact (phaseBoot_appendsBlindly hf h).of_eq hphase
    case report => exact (phaseReport_appendsBlindly hf h).of_eq hphase
    case sample => exact (phaseSample_appendsBlindly hf h).of_eq hphase
    case cooldown => cases h; exact ⟨_, rfl, hphase⟩
    case restart => exact (phaseRestart_appendsBlindly hf h).of_eq hphase
    case wait => cases h; exact ⟨_, rfl, hphase⟩
    case decide => exact (phaseDecide_appendsBlindly hf h).of_eq hphase
    case repairCheck => exact (phaseRepairCheck_appendsBlindly hf h).of_eq hphase
    case repairStep => exact (phaseRepairStep_appendsBlindly hf h).of_eq hphase
    case ceilStop => exact (phaseCeilStop_appendsBlindly hf h).of_eq hphase
    case ceilReset => exact (phaseCeilReset_appendsBlindly hf h).of_eq hphase
    case ceilDir => exact (phaseCeilDir_appendsBlindly hf h).of_eq hphase
    case settle => cases h; exact ⟨_, rfl, hphase⟩
    case halted => cases h; exact appendsBlindly_nothing rfl hphase
  · rw [ctrlStep_faulted hf] at h
    cases h
    exact appendsBlindly_nothing rfl fun l => ctrlStep_faulted (s := s.setTrace l) hf

/-! ### The harness, the other agents and the step -/

theorem execWord_appendsBlindly {w : Word} {s t : State} (h : execWord w s = .next t) :
    AppendsBlindly (execWord w) s t := by
  by_cases hf : s.fault = 0
  · cases hd : decode w with
    | ok i =>
      rw [execWord_command hf hd] at h
      exact (exec_appendsBlindly h).of_eq fun l => execWord_command (s := s.setTrace l) hf hd
    | error e =>
      rw [execWord_illegal hf hd] at h
      cases h
      refine appendsBlindly_nothing (takeFault_trace _ _) fun l => ?_
      rw [execWord_illegal (s := s.setTrace l) hf hd, takeFault_setTrace hf]
  · rw [execWord_faulted w hf] at h
    cases h
    exact appendsBlindly_nothing rfl fun l => execWord_faulted (s := s.setTrace l) w hf

theorem afterWord_setTrace (s : State) (l : List Event) : afterWord (s.setTrace l) = (afterWord s).setTrace l := by
  by_cases hf : s.fault = 0
  · rw [afterWord_eq, afterWord_eq, if_pos hf, if_pos (by exact hf)]
    rfl
  · rw [afterWord_eq, afterWord_eq, if_neg hf, if_neg (by exact hf)]

theorem afterWord_trace (s : State) : (afterWord s).trace = s.trace := by
  obtain ⟨n, e⟩ := afterWord_hidx s
  rw [e]

theorem tick_setTrace (s : State) (l : List Event) : tick (s.setTrace l) = (tick s).setTrace l := by
  simp only [tick_eq, apply_ite (State.setTrace · l)]
  rfl

theorem extDeassert_setTrace (s : State) (l : List Event) :
    extDeassert (s.setTrace l) = (extDeassert s).setTrace l := by
  simp only [extDeassert, apply_ite (State.setTrace · l)]
  rfl

theorem obsRead_setTrace (s : State) (l : List Event) : obsRead (s.setTrace l) = (obsRead s).setTrace l := by
  simp only [obsRead, apply_ite (State.setTrace · l)]
  rfl

theorem takeTurn_setTrace (s : State) (l : List Event) : takeTurn (s.setTrace l) = (takeTurn s).setTrace l := by
  cases h : s.sched
  · simp only [takeTurn, setTrace_sched, h]
    rfl
  · simp only [takeTurn, setTrace_sched, h]
    rfl

theorem harnessStep_appendsBlindly {s t : State} (h : harnessStep s = .next t) : AppendsBlindly harnessStep s t := by
  by_cases hstop : s.fault ≠ 0 ∨ s.prog.length ≤ s.hidx
  · rw [harnessStep_stopped hstop] at h
    cases h
    exact appendsBlindly_nothing rfl fun l => harnessStep_stopped (s := s.setTrace l) hstop
  · obtain ⟨hf, hlt⟩ := not_or.mp hstop
    have hf : s.fault = 0 := Decidable.not_not.mp hf
    have hw := List.getElem?_eq_getElem (Nat.lt_of_not_le hlt)
    obtain ⟨u, hex, hstep⟩ := harnessStep_word hf hw
    obtain ⟨es, ht, hl⟩ := execWord_appendsBlindly hex
    rw [hstep] at h
    cases h
    refine ⟨es, (afterWord_trace u).trans ht, fun l => ?_⟩
    obtain ⟨u', hex', hstep'⟩ := harnessStep_word (s := s.setTrace l) hf hw
    rw [hl l] at hex'
    cases hex'
    rw [hstep', afterWord_setTrace]

theorem agentStep_appendsBlindly {m : Move} {s t : State} (hm : m ≠ .hostReset) (h : agentStep m s = .next t) :
    AppendsBlindly (agentStep m) s t := by
  cases m with
  | issuer =>
    have h : issuerStep s = .next t := h
    cases hmode : s.mode with
    | controller =>
      rw [issuerStep_controller hmode] at h
      exact (ctrlStep_appendsBlindly h).of_eq fun l => issuerStep_controller (s := s.setTrace l) hmode
    | harness =>
      rw [issuerStep_harness hmode] at h
      exact (harnessStep_appendsBlindly h).of_eq fun l => issuerStep_harness (s := s.setTrace l) hmode
  | tick =>
    cases h
    exact appendsBlindly_nothing (tick_trace s) fun l => congrArg _ (tick_setTrace s l)
  | extAssert => cases h; exact appendsBlindly_nothing rfl fun l => rfl
  | extDeassert =>
    cases h
    exact appendsBlindly_nothing (by unfold extDeassert; split <;> rfl) fun l => congrArg _ (extDeassert_setTrace s l)
  | observe =>
    cases h
    exact appendsBlindly_nothing (by unfold obsRead; split <;> rfl) fun l => congrArg _ (obsRead_setTrace s l)
  | hostReset => exact absurd rfl hm

/-- Settles O57: every agent's step appends its events whatever `TRACE` holds, and reset empties it. -/
theorem traceIsNeverRead : Obligations.TraceIsNeverRead := by
  unfold Obligations.TraceIsNeverRead
  intro s t h
  obtain ⟨hv, h⟩ := step_next h
  have hstep (l : List Event) : step (s.setTrace l) = agentStep (dueMove s) ((takeTurn s).setTrace l) := by
    rw [step_valid (s := s.setTrace l) hv, takeTurn_setTrace]
    rfl
  by_cases hm : dueMove s = .hostReset
  · rw [hm] at h hstep
    cases h
    exact .inl ⟨hm, rfl, hstep⟩
  · obtain ⟨es, ht, hl⟩ := agentStep_appendsBlindly hm h
    rw [takeTurn_trace] at ht
    exact .inr ⟨es, ht, fun l => (hstep l).trans (hl l)⟩

end Sys2Proof.Machine
end

section
/-! PROOFS. Runs of the ramp (45_ramp_controller.md R155 to R161): a run is its first step and the run after it, and
each step is a phase's own. -/

namespace Sys2Proof.Machine

/-! ### A run, step by step -/

theorem runSteps_succ {s t : State} {k : Nat} (h : step s = .next t) : runSteps (k + 1) s = runSteps k t := by
  simp only [runSteps, h]

/-- A run whose first step is CTRL's. -/
theorem runSteps_ctrl {s t : State} {k : Nat} (hv : configValid s.cfg = true) (hm : s.mode = .controller)
    (hd : dueMove s = .issuer) (h : ctrlStep (takeTurn s) = .next t) :
    runSteps (k + 1) s = runSteps k t := by
  refine runSteps_succ ?_
  rw [step_of_due hv hd]
  exact (issuerStep_controller ((takeTurn_mode s).trans hm)).trans h

/-! ### The stop path (R160) -/

/-- Settles O56: P_SAMPLE, P_COOLDOWN, P_RESTART and P_WAIT in turn. -/
theorem stopPathIsTransient : Obligations.StopPathIsTransient := by
  unfold Obligations.StopPathIsTransient
  intro s hv hm hf hph hs
  calc
    runSteps 4 { s with sched := [.issuer, .issuer, .issuer, .issuer] }
    _ = runSteps 3 { s with
          sched := [.issuer, .issuer, .issuer], resp := 1, run := .stopped, ph := .cooldown
          trace := s.trace ++ [.stStopped] } :=
      runSteps_ctrl hv hm rfl (ctrlStep_sample_stopped hf hph hs)
    _ = runSteps 2 { s with
          sched := [.issuer, .issuer], resp := 1, run := .stopped, ph := .restart
          trace := s.trace ++ [.stStopped] ++ [.wait .cooldown] } :=
      runSteps_ctrl hv hm rfl (ctrlStep_cooldown hf rfl)
    _ = runSteps 1 { s with
          sched := [.issuer], resp := 1, stop := false, run := .running, ph := .wait
          trace := s.trace ++ [.stStopped] ++ [.wait .cooldown] ++ [.stStarted] } :=
      runSteps_ctrl hv hm rfl (ctrlStep_restart hf rfl)
    _ = runSteps 0 { s with
          sched := [], resp := 1, stop := false, run := .running, ph := .decide
          trace := s.trace ++ [.stStopped] ++ [.wait .cooldown] ++ [.stStarted] ++ [.wait .interval] } :=
      runSteps_ctrl hv hm rfl (ctrlStep_wait hf rfl)
    _ = _ := by simp only [runSteps, List.append_assoc, List.cons_append, List.nil_append]

/-! ### The ceiling (R155, R158, R159) -/

/-- The baseline pair of this hardware: INIT 500, 90 gives 3999 and 3599 (R99). -/
theorem hw_baseline {c : Config} (ha : HwArith c) (hr : HwRamp c) :
    periodOf c (BitVec.ofNat 16 c.fBase) = .ok 3999 ∧ compareOf c 3999 (BitVec.ofNat 8 c.dBase) = .ok 3599 := by
  obtain ⟨hf, hd, _⟩ := hr
  rw [hf, hd]
  have hfit : 3999 * 100 < 2 ^ c.arithWidth := by rw [ha.2.2.2]; decide
  exact ⟨(periodOf_hw_ok (f := 500) ha (by decide)).1, compareOf_of_period_fits (d := 90) hfit (by decide)⟩

/-- What P_CEIL_STOP writes but the phase (R145). -/
def stopInverted (s : State) : State :=
  { s with stop := !s.stop, run := if s.stop then .running else .stopped, trace := s.trace ++ [.revStopped] }

/-- What P_CEIL_RESET writes but the phase, where the baseline pair is `p` and `c` and the counter runs (R146). -/
def baselineInstalled (p c : Nat) (s : State) : State :=
  { s with period := p, compare := c, ie := true, perA := activeAfter s.cfg p s.perA,
           cmpA := activeAfter s.cfg c s.cmpA, freq := s.cfg.fBase, duty := s.cfg.dBase }

/-- What P_CEIL_DIR writes but the phase (R147). -/
def directionFlipped (s : State) : State :=
  { s with dirl := !s.dirl, dir := flipDirection s.dir, trace := s.trace ++ [.revDir (flipDirection s.dir)] }

/-- The whole path over the ceiling: P_DECIDE, P_CEIL_STOP, P_CEIL_RESET, P_CEIL_DIR and P_SETTLE in turn. -/
theorem runSteps_over_ceiling {s : State} {p c : Nat} (hv : configValid s.cfg = true) (hm : s.mode = .controller)
    (hf : s.fault = 0) (hph : s.ph = .decide) (hcen : s.cen = true) (hceil : s.cfg.fCeil ≤ s.freq)
    (hp : periodOf s.cfg (BitVec.ofNat 16 s.cfg.fBase) = .ok p)
    (hc : compareOf s.cfg p (BitVec.ofNat 8 s.cfg.dBase) = .ok c) :
    runSteps 5 { s with sched := List.replicate 5 .issuer } =
      .next { (directionFlipped (baselineInstalled p c (stopInverted s))).waitFor .settle with
        sched := [], ph := .report } := calc
  runSteps 5 { s with sched := [.issuer, .issuer, .issuer, .issuer, .issuer] }
  _ = runSteps 4 { s with sched := [.issuer, .issuer, .issuer, .issuer], ph := .ceilStop } :=
    runSteps_ctrl hv hm rfl (ctrlStep_atCeiling hf hph hceil)
  _ = runSteps 3 { stopInverted s with sched := [.issuer, .issuer, .issuer], ph := .ceilReset } :=
    runSteps_ctrl hv hm rfl (ctrlStep_ceilStop hf rfl)
  _ = runSteps 2 { baselineInstalled p c (stopInverted s) with sched := [.issuer, .issuer], ph := .ceilDir } :=
    runSteps_ctrl hv hm rfl (by
      refine ctrlStep_ceilReset_running ?_ ?_ ?_ ?_ ?_
      exacts [hf, rfl, hcen, hp, hc])
  _ = runSteps 1 { directionFlipped (baselineInstalled p c (stopInverted s)) with sched := [.issuer], ph := .settle } :=
    runSteps_ctrl hv hm rfl (ctrlStep_ceilDir hf rfl)
  _ = runSteps 0 { (directionFlipped (baselineInstalled p c (stopInverted s))).waitFor .settle with
        sched := [], ph := .report } :=
    runSteps_ctrl hv hm rfl (ctrlStep_settle hf rfl)

/-- Settles O55: the fields of the state at the end of the path over the ceiling. -/
theorem ceilingResetsAndReverses : Obligations.CeilingResetsAndReverses := by
  unfold Obligations.CeilingResetsAndReverses
  intro s hv ha hr hm hf hph hcen hfreq
  obtain ⟨hp, hc⟩ := hw_baseline ha hr
  have hceil : s.cfg.fCeil ≤ s.freq := by rw [hr.2.2.2.2]; exact hfreq
  refine ⟨_, runSteps_over_ceiling hv hm hf hph hcen hceil hp hc, rfl, hr.1, hr.2.1, rfl, rfl, rfl, rfl, rfl,
    flipDirection_eq s.dir, ?trace, hf⟩
  case trace => simp [State.waitFor, State.emit, directionFlipped, baselineInstalled, stopInverted]

/-! ### One repair suffices (R156) -/

/-- The turns of CNT, EXT and OBS leave the issuer, the phase, the fault and the register pair. -/
structure OthersKept (s t : State) : Prop where
  period  : t.period = s.period
  compare : t.compare = s.compare
  fault   : t.fault = s.fault
  mode    : t.mode = s.mode
  ph      : t.ph = s.ph
  cfg     : t.cfg = s.cfg
  sched   : t.sched = (takeTurn s).sched

theorem othersKept_of_step {s t : State} (h : step s = .next t) (hi : dueMove s ≠ .issuer)
    (hr : dueMove s ≠ .hostReset) : OthersKept s t := by
  cases (step_effect h).2 with
  | tick | extAssert => constructor <;> simp
  | extDeassert => unfold extDeassert; split <;> constructor <;> simp
  | observe => unfold obsRead; split <;> constructor <;> simp
  | hostReset hd => exact absurd hd hr
  | controllerStopped hd | controller _ hd | harnessStopped hd | harnessCommand _ _ _ hd | harnessIllegal _ _ hd =>
    exact absurd hd hi

/-- While the others have their turns, nothing changes that the repair loop reads. -/
theorem runSteps_others {others : List Move} (hi : .issuer ∉ others) (hr : .hostReset ∉ others) (rest : List Move)
    (k : Nat) (s : State) (hv : configValid s.cfg = true) (hw : WidthInv s) (hs : s.sched = others ++ rest) :
    ∃ t, runSteps (k + others.length) s = runSteps k t ∧ t.sched = rest ∧ WidthInv t ∧ t.period = s.period ∧
      t.compare = s.compare ∧ t.fault = s.fault ∧ t.mode = s.mode ∧ t.ph = s.ph ∧ t.cfg = s.cfg := by
  induction others generalizing s with
  | nil => exact ⟨s, rfl, hs, hw, rfl, rfl, rfl, rfl, rfl, rfl⟩
  | cons m others ih =>
    obtain ⟨hdue, hturn⟩ := takeTurn_scheduled hs
    simp only [List.mem_cons, not_or] at hi hr
    obtain ⟨u, hu⟩ := agentStep_next (dueMove s) (takeTurn s)
    rw [← step_valid hv] at hu
    have ku := othersKept_of_step hu (hdue ▸ Ne.symm hi.1) (hdue ▸ Ne.symm hr.1)
    have hsched : u.sched = others ++ rest := ku.sched.trans (by rw [hturn]; rfl)
    obtain ⟨t, hrun, ht, hwt, hper, hcmp, hf, hm, hph, hcfg⟩ :=
      ih hi.2 hr.2 u (ku.cfg ▸ hv) (widthInv_step hw hu) hsched
    exact ⟨t, (runSteps_succ hu).trans hrun, ht, hwt, hper.trans ku.period, hcmp.trans ku.compare, hf.trans ku.fault,
      hm.trans ku.mode, hph.trans ku.ph, hcfg.trans ku.cfg⟩

/-- The repair, the turns of the others, and the check: the repair installs a compare value of at most the period, the
others keep both registers, and the check leaves the loop. -/
theorem runSteps_one_repair {s : State} {others : List Move} (hsched : s.sched = .issuer :: (others ++ [.issuer]))
    (hv : configValid s.cfg = true) (hm : s.mode = .controller) (hf : s.fault = 0) (hph : s.ph = .repairStep)
    (hw : WidthInv s) (hfit : s.period * 100 < 2 ^ s.cfg.arithWidth) (hle : s.cfg.dStep ≤ s.duty)
    (hduty : s.duty ≤ 100) (hi : .issuer ∉ others) (hr : .hostReset ∉ others) :
    ∃ t, runSteps (others.length + 2) s = .next t ∧ t.ph = .report ∧ t.fault = 0 ∧ t.compare ≤ t.period ∧
      t.period = s.period := by
  obtain ⟨hdue, hturn⟩ := takeTurn_scheduled hsched
  have hlow : s.duty - s.cfg.dStep ≤ 100 := Nat.le_trans (Nat.sub_le _ _) hduty
  obtain ⟨c, hc, hrepair⟩ := (repairStepLowersDuty s ⟨hv, hdue, hm, hf⟩ hw hph hfit).2.2 hle hlow
  rw [hturn] at hrepair
  obtain ⟨u, hothers, hschedu, hwu, hperu, hcmpu, hfu, hmu, hphu, hcfgu⟩ :=
    runSteps_others hi hr [.issuer] 1 _ (by exact hv) (widthInv_step hw hrepair) rfl
  have hturnu : CtrlTurn u := ⟨hcfgu ▸ hv, (takeTurn_scheduled hschedu).1, hmu.trans hm, hfu.trans hf⟩
  have hcp : u.compare ≤ u.period := by
    rw [hperu, hcmpu, hc]
    exact compare_quotient_le hlow
  have hcheck := repairCheckStep u hturnu hwu hphu
  rw [if_neg (Nat.not_lt_of_le hcp)] at hcheck
  have hrun := calc
    runSteps (others.length + 2) s
    _ = runSteps (1 + others.length) _ := by rw [runSteps_succ hrepair, Nat.add_comm]
    _ = runSteps 1 u := hothers
    _ = .next _ := runSteps_succ hcheck
  refine ⟨_, hrun, rfl, ?fault, ?le, ?period⟩
  case fault => exact (takeTurn_fault u).trans hturnu.2.2.2
  case le => simpa using hcp
  case period => exact (takeTurn_period u).trans hperu

/-- Settles O53: the run of one repair on the scheduled state. -/
theorem oneRepairSuffices : Obligations.OneRepairSuffices := by
  unfold Obligations.OneRepairSuffices
  intro s others hv hm hf hph hw hfit hle hduty hi hr
  have hw' : WidthInv { s with sched := .issuer :: (others ++ [.issuer]) } :=
    widthInv_congr hw rfl rfl rfl rfl rfl rfl rfl rfl rfl
  exact runSteps_one_repair rfl hv hm hf hph hw' hfit hle hduty hi hr

end Sys2Proof.Machine
end

section
/-! PROOFS. How many CTRL steps an iteration of the ramp takes (45_ramp_controller.md R161). The count is built from the
end of the iteration back to its start: each phase takes one step more than the phase it leads to. -/

namespace Sys2Proof.Machine

/-! ### Reaching P_REPORT in a number of steps -/

/-- After `n` steps, and not before, the block is in P_REPORT, without a fault and with `COMPARE <= PERIOD`. -/
def ReportsAfter : Nat → State → Prop
  | 0, s => s.ph = .report ∧ s.fault = 0 ∧ s.compare ≤ s.period
  | n + 1, s => ∃ t, step s = .next t ∧ (n ≠ 0 → t.ph ≠ .report) ∧ ReportsAfter n t

theorem reportsAfter_run {n : Nat} {s : State} (h : ReportsAfter n s) :
    (∃ t, runSteps n s = .next t ∧ t.ph = .report ∧ t.fault = 0 ∧ t.compare ≤ t.period) ∧
    (∀ k t, 0 < k → k < n → runSteps k s = .next t → t.ph ≠ .report) := by
  induction n generalizing s with
  | zero => exact ⟨⟨s, rfl, h⟩, fun k t h0 hk => absurd hk (Nat.not_lt_zero k)⟩
  | succ n ih =>
    obtain ⟨u, hu, hne, hrest⟩ := h
    obtain ⟨⟨t, hrun, ht⟩, hbefore⟩ := ih hrest
    refine ⟨⟨t, (runSteps_succ hu).trans hrun, ht⟩, fun k t h0 hk hkt => ?_⟩
    obtain ⟨k, rfl⟩ := Nat.exists_eq_succ_of_ne_zero (Nat.pos_iff_ne_zero.mp h0)
    rw [runSteps_succ hu] at hkt
    by_cases hk0 : k = 0
    · subst hk0
      cases hkt
      exact hne (by omega)
    · exact hbefore k t (Nat.pos_of_ne_zero hk0) (by omega) hkt

/-- This hardware's ramp with `n` turns of CTRL to come and nothing else. -/
structure Ramping (n : Nat) (s : State) : Prop where
  valid  : configValid s.cfg = true
  arith  : HwArith s.cfg
  ramp   : HwRamp s.cfg
  mode   : s.mode = .controller
  fault  : s.fault = 0
  widths : WidthInv s
  sched  : s.sched = List.replicate n .issuer

theorem Ramping.ctrlTurn {n : Nat} {s : State} (h : Ramping (n + 1) s) : CtrlTurn s :=
  ⟨h.valid, (takeTurn_scheduled h.sched).1, h.mode, h.fault⟩

/-- A CTRL step without a fault takes one turn and leaves the rest of the ramp's premises. -/
theorem Ramping.step {n : Nat} {s t : State} (h : Ramping (n + 1) s) (hstep : step s = .next t) (hf : t.fault = 0) :
    Ramping n t := by
  obtain ⟨hcfg, hmode, _⟩ := parametersModeAndListNeverChange s t hstep
  have he := phase_effect (ctrlTurn_fault h.ctrlTurn) ((step_of_ctrlTurn h.ctrlTurn).symm.trans hstep)
  have hsched : t.sched = List.replicate n .issuer := by
    rw [(phase_kept he).sched, (takeTurn_scheduled h.sched).2]
  exact ⟨hcfg ▸ h.valid, hcfg ▸ h.arith, hcfg ▸ h.ramp, hmode.trans h.mode, hf, widthInv_step h.widths hstep, hsched⟩

/-- The last step of an iteration. -/
theorem reportsAfter_one {s t : State} (hstep : step s = .next t) (hf : t.fault = 0) (hph : t.ph = .report)
    (hle : t.compare ≤ t.period) : ReportsAfter 1 s :=
  ⟨t, hstep, fun h => absurd rfl h, hph, hf, hle⟩

/-- A step to another phase of the iteration. -/
theorem reportsAfter_succ {n : Nat} {s t : State} (h : Ramping (n + 1) s) (hstep : step s = .next t) (hf : t.fault = 0)
    (hph : t.ph ≠ .report) (hrest : Ramping n t → ReportsAfter n t) : ReportsAfter (n + 1) s :=
  ⟨t, hstep, fun _ => hph, hrest (h.step hstep hf)⟩

/-! ### The phases from the last back to the first -/

theorem reportsAfter_settle {s : State} (h : Ramping 1 s) (hph : s.ph = .settle) (hle : s.compare ≤ s.period) :
    ReportsAfter 1 s :=
  reportsAfter_one ((waitSteps s h.ctrlTurn).2.2 hph) (ctrlTurn_fault h.ctrlTurn) rfl (by simpa using hle)

theorem reportsAfter_ceilDir {s : State} (h : Ramping 2 s) (hph : s.ph = .ceilDir) (hle : s.compare ≤ s.period) :
    ReportsAfter 2 s :=
  reportsAfter_succ h ((ceilingLatchSteps s h.ctrlTurn).2 hph) (ctrlTurn_fault h.ctrlTurn) nofun fun ht =>
    reportsAfter_settle ht rfl (by simpa using hle)

theorem reportsAfter_ceilReset {s : State} (h : Ramping 3 s) (hph : s.ph = .ceilReset) : ReportsAfter 3 s := by
  have hf := ctrlTurn_fault h.ctrlTurn
  obtain ⟨hp, hc⟩ := hw_baseline h.arith h.ramp
  have hcommand : commandResult (baselineInit (takeTurn s).cfg) (takeTurn s) =
      .ok (installPair 3999 3599 (takeTurn s)) :=
    commandResult_init_ok (by simpa using hp) (by simpa using hc)
  have hstep := (step_of_ctrlTurn h.ctrlTurn).trans
    (ctrlStep_ceilReset hf ((takeTurn_ph s).trans hph) (by simpa using hp) (by simpa using hc))
  have hfault := (commandResult_ok_fault hcommand).1.trans hf
  have hle := init_compare_le_period hcommand
  exact reportsAfter_succ h hstep hfault nofun fun ht => reportsAfter_ceilDir ht rfl hle

theorem reportsAfter_ceilStop {s : State} (h : Ramping 4 s) (hph : s.ph = .ceilStop) : ReportsAfter 4 s :=
  reportsAfter_succ h ((ceilingLatchSteps s h.ctrlTurn).1 hph) (ctrlTurn_fault h.ctrlTurn) nofun fun ht =>
    reportsAfter_ceilReset ht rfl

/-- A check that finds the compare value within the period ends the iteration. -/
theorem reportsAfter_repairCheck {s : State} (h : Ramping 1 s) (hph : s.ph = .repairCheck)
    (hle : s.compare ≤ s.period) : ReportsAfter 1 s := by
  have hstep := repairCheckStep s h.ctrlTurn h.widths hph
  rw [if_neg (Nat.not_lt_of_le hle)] at hstep
  exact reportsAfter_one hstep (ctrlTurn_fault h.ctrlTurn) rfl (by simpa using hle)

theorem reportsAfter_repairStep {s : State} (h : Ramping 2 s) (hph : s.ph = .repairStep) (h2 : 2 ≤ s.duty)
    (h100 : s.duty ≤ 100) : ReportsAfter 2 s := by
  have hd : s.cfg.dStep = 2 := h.ramp.2.2.2.1
  have hfit : s.period * 100 < 2 ^ s.cfg.arithWidth := by
    have hper := fits_iff.mp (widthInv_iff.mp h.widths).1
    rw [h.arith.2.2.1] at hper
    rw [h.arith.2.2.2]
    omega
  obtain ⟨c, hc, hstep⟩ := (repairStepLowersDuty s h.ctrlTurn h.widths hph hfit).2.2 (by omega) (by omega)
  have hle : c ≤ s.period := hc ▸ compare_quotient_le (by omega)
  exact reportsAfter_succ h hstep (ctrlTurn_fault h.ctrlTurn) nofun fun ht =>
    reportsAfter_repairCheck ht rfl (by simpa using hle)

/-- A check that finds the compare value above the period is followed by one repair and one more check. -/
theorem reportsAfter_repair {s : State} (h : Ramping 3 s) (hph : s.ph = .repairCheck) (hgt : s.period < s.compare)
    (h2 : 2 ≤ s.duty) (h100 : s.duty ≤ 100) : ReportsAfter 3 s := by
  have hstep := repairCheckStep s h.ctrlTurn h.widths hph
  rw [if_pos hgt] at hstep
  exact reportsAfter_succ h hstep (ctrlTurn_fault h.ctrlTurn) nofun fun ht =>
    reportsAfter_repairStep ht rfl (by simpa using h2) (by simpa using h100)

/-- The steps of an iteration from P_DECIDE on: at the ceiling, and below it with and without a repair. -/
def stepsFromDecide (s : State) : Nat :=
  if s.freq < 3000 then (if 2000000 / (s.freq + 100) - 1 < s.compare then 4 else 2) else 5

/-- Below the ceiling of this hardware, the next frequency fits its register: 3000 does, so it has twelve bits. -/
theorem hw_next_freq_fits {c : Config} (hv : configValid c = true) (hr : HwRamp c) {f : Nat} (hf : f < 3000) :
    f + 100 < 2 ^ c.freqWidth := by
  obtain ⟨_, _, _, _, _, _, hceil, _⟩ := configValid_cases hv
  rw [hr.2.2.2.2] at hceil
  have hw : 12 ≤ c.freqWidth := by
    by_contra hlt
    have : 2 ^ c.freqWidth ≤ 2 ^ 11 := Nat.pow_le_pow_right (by decide) (by omega)
    omega
  have : 2 ^ 12 ≤ 2 ^ c.freqWidth := Nat.pow_le_pow_right (by decide) hw
  omega

/-- The step of P_DECIDE below the ceiling on this hardware. -/
theorem step_raise_hw {n : Nat} {s : State} (h : Ramping (n + 1) s) (hph : s.ph = .decide) (hlt : s.freq < 3000) :
    step s = .next
      { takeTurn s with
        period := 2000000 / (s.freq + 100) - 1
        perA := activeAfter s.cfg (2000000 / (s.freq + 100) - 1) s.perA
        cmpA := activeAfter s.cfg s.compare s.cmpA
        freq := s.freq + 100, ph := .repairCheck } := by
  obtain ⟨_, _, hstepHz, _, hceil⟩ := h.ramp
  obtain ⟨f, hf, hok, _⟩ := (decideStep s h.ctrlTurn hph).2.2 (by rw [hceil]; exact hlt)
    (by rw [hstepHz]; exact hw_next_freq_fits h.valid h.ramp hlt)
  rw [hstepHz] at hf hok
  have hp := (periodOf_hw_ok (f := f) h.arith (by omega)).1
  rw [hf] at hp
  exact hok _ hp

/-- What the iteration depends on before P_DECIDE: `n` is the number of its steps from P_DECIDE on, and the duty can be
lowered once. -/
structure Deciding (n : Nat) (s : State) : Prop where
  steps    : stepsFromDecide s = n
  dutyLow  : 2 ≤ s.duty
  dutyHigh : s.duty ≤ 100

/-- It depends on the frequency, the compare value and the duty only. -/
theorem Deciding.congr {n : Nat} {s t : State} (h : Deciding n s) (hfreq : t.freq = s.freq)
    (hcompare : t.compare = s.compare) (hduty : t.duty = s.duty) : Deciding n t := by
  obtain ⟨hn, h2, h100⟩ := h
  refine ⟨?_, hduty ▸ h2, hduty ▸ h100⟩
  rw [← hn, stepsFromDecide, hfreq, hcompare]
  rfl

theorem reportsAfter_decide {n : Nat} {s : State} (hd : Deciding n s) (h : Ramping n s) (hph : s.ph = .decide) :
    ReportsAfter n s := by
  obtain ⟨rfl, h2, h100⟩ := hd
  unfold stepsFromDecide at h ⊢
  by_cases hlt : s.freq < 3000
  · rw [if_pos hlt] at h ⊢
    by_cases hgt : 2000000 / (s.freq + 100) - 1 < s.compare
    · rw [if_pos hgt] at h ⊢
      exact reportsAfter_succ h (step_raise_hw h hph hlt) (ctrlTurn_fault h.ctrlTurn) nofun fun ht =>
        reportsAfter_repair ht rfl (by simpa using hgt) (by simpa using h2) (by simpa using h100)
    · rw [if_neg hgt] at h ⊢
      exact reportsAfter_succ h (step_raise_hw h hph hlt) (ctrlTurn_fault h.ctrlTurn) nofun fun ht =>
        reportsAfter_repairCheck ht rfl (by simpa using hgt)
  · rw [if_neg hlt] at h ⊢
    have hceil : s.cfg.fCeil ≤ s.freq := by
      rw [h.ramp.2.2.2.2]
      exact Nat.le_of_not_lt hlt
    exact reportsAfter_succ h ((decideStep s h.ctrlTurn hph).1 hceil) (ctrlTurn_fault h.ctrlTurn) nofun fun ht =>
      reportsAfter_ceilStop ht rfl

/-! ### The phases before P_DECIDE, which leave what it depends on -/

section
variable {n : Nat} {s : State} (hd : Deciding n s)
include hd

theorem reportsAfter_wait (h : Ramping (n + 1) s) (hph : s.ph = .wait) : ReportsAfter (n + 1) s :=
  reportsAfter_succ h ((waitSteps s h.ctrlTurn).2.1 hph) (ctrlTurn_fault h.ctrlTurn) nofun fun ht =>
    reportsAfter_decide (hd.congr (takeTurn_freq s) (takeTurn_compare s) (takeTurn_duty s)) ht rfl

theorem reportsAfter_restart (h : Ramping (n + 2) s) (hph : s.ph = .restart) : ReportsAfter (n + 2) s :=
  reportsAfter_succ h ((sampleAndRestartSteps s h.ctrlTurn).2 hph) (ctrlTurn_fault h.ctrlTurn) nofun fun ht =>
    reportsAfter_wait (hd.congr (takeTurn_freq s) (takeTurn_compare s) (takeTurn_duty s)) ht rfl

theorem reportsAfter_cooldown (h : Ramping (n + 3) s) (hph : s.ph = .cooldown) : ReportsAfter (n + 3) s :=
  reportsAfter_succ h ((waitSteps s h.ctrlTurn).1 hph) (ctrlTurn_fault h.ctrlTurn) nofun fun ht =>
    reportsAfter_restart (hd.congr (takeTurn_freq s) (takeTurn_compare s) (takeTurn_duty s)) ht rfl

theorem reportsAfter_sample_stopped (h : Ramping (n + 4) s) (hph : s.ph = .sample) (hs : s.stop = true) :
    ReportsAfter (n + 4) s := by
  have hstep := (sampleAndRestartSteps s h.ctrlTurn).1 hph
  rw [if_pos hs] at hstep
  exact reportsAfter_succ h hstep (ctrlTurn_fault h.ctrlTurn) nofun fun ht =>
    reportsAfter_cooldown (hd.congr (takeTurn_freq s) (takeTurn_compare s) (takeTurn_duty s)) ht rfl

theorem reportsAfter_sample_running (h : Ramping (n + 2) s) (hph : s.ph = .sample) (hs : s.stop = false) :
    ReportsAfter (n + 2) s := by
  have hstep := (sampleAndRestartSteps s h.ctrlTurn).1 hph
  rw [if_neg (by simp [hs])] at hstep
  exact reportsAfter_succ h hstep (ctrlTurn_fault h.ctrlTurn) nofun fun ht =>
    reportsAfter_wait (hd.congr (takeTurn_freq s) (takeTurn_compare s) (takeTurn_duty s)) ht rfl

theorem reportsAfter_report_stopped (h : Ramping (n + 5) s) (hph : s.ph = .report) (hs : s.stop = true) :
    ReportsAfter (n + 5) s :=
  reportsAfter_succ h (reportStep s h.ctrlTurn hph) (ctrlTurn_fault h.ctrlTurn) nofun fun ht =>
    reportsAfter_sample_stopped (hd.congr (takeTurn_freq s) (takeTurn_compare s) (takeTurn_duty s)) ht rfl
      ((takeTurn_stop s).trans hs)

theorem reportsAfter_report_running (h : Ramping (n + 3) s) (hph : s.ph = .report) (hs : s.stop = false) :
    ReportsAfter (n + 3) s :=
  reportsAfter_succ h (reportStep s h.ctrlTurn hph) (ctrlTurn_fault h.ctrlTurn) nofun fun ht =>
    reportsAfter_sample_running (hd.congr (takeTurn_freq s) (takeTurn_compare s) (takeTurn_duty s)) ht rfl
      ((takeTurn_stop s).trans hs)

end

/-! ### The whole iteration (R161) -/

theorem stepsFromDecide_bounds (s : State) : 2 ≤ stepsFromDecide s ∧ stepsFromDecide s ≤ 5 := by
  unfold stepsFromDecide
  split
  · split <;> decide
  · decide

theorem iterationSteps_eq (s : State) : iterationSteps s = stepsFromDecide s + if s.stop then 5 else 3 := by
  unfold iterationSteps stepsFromDecide
  split_ifs <;> rfl

theorem reportsAfter_iteration {n : Nat} {s : State} (hn : iterationSteps s = n) (h : Ramping n s)
    (hph : s.ph = .report) (h2 : 2 ≤ s.duty) (h100 : s.duty ≤ 100) : ReportsAfter n s := by
  have hd : Deciding (stepsFromDecide s) s := ⟨rfl, h2, h100⟩
  rw [iterationSteps_eq] at hn
  subst hn
  cases hs : s.stop
  · rw [hs] at h
    exact reportsAfter_report_running hd h hph hs
  · rw [hs] at h
    exact reportsAfter_report_stopped hd h hph hs

/-- Settles O54: the count of the iteration, and the run of that many turns of CTRL. -/
theorem iterationTakesFiveToTenSteps : Obligations.IterationTakesFiveToTenSteps := by
  unfold Obligations.IterationTakesFiveToTenSteps
  intro s hv ha hr hm hf hw hph h2 h100
  have hbounds : 5 ≤ iterationSteps s ∧ iterationSteps s ≤ 10 := by
    have := stepsFromDecide_bounds s
    rw [iterationSteps_eq]
    split <;> omega
  have hstart : Ramping (iterationSteps s) { s with sched := List.replicate (iterationSteps s) .issuer } :=
    ⟨hv, ha, hr, hm, hf, widthInv_congr hw rfl rfl rfl rfl rfl rfl rfl rfl rfl, rfl⟩
  have hreports : ReportsAfter (iterationSteps s) { s with sched := List.replicate (iterationSteps s) .issuer } :=
    reportsAfter_iteration rfl hstart hph h2 h100
  obtain ⟨hreaches, hbefore⟩ := reportsAfter_run hreports
  exact ⟨hbounds.1, hbounds.2, hreaches, hbefore⟩

end Sys2Proof.Machine
end
